-- ==== Sys2Proof/Word.lean ====
section
/-! DEFINITION. The data widths of the hardware (00_scope R8): bytes of 8 bits, addresses of 16 bits. -/

namespace Sys2Proof

/-- "All data bytes are unsigned 8-bit" (00_scope R8). -/
abbrev Byte := BitVec 8

/-- "All addresses are unsigned 16-bit" (00_scope R8). -/
abbrev Word := BitVec 16

end Sys2Proof
end

