-- ==== Sys2Proof/Machine/Bits.lean ====
section
/-! DEFINITION. Byte order, fields and extension (00_scope R10, R11, 20_memory R94). -/

namespace Sys2Proof.Machine

/-- `hi:lo`, "high register << 8 | low register" (00_scope R10, 10_state R21). -/
def word (hi lo : Byte) : Word := hi ++ lo

/-- `v[15:8]` (00_scope R10). -/
def hiByte (w : Word) : Byte := w.extractLsb' 8 8

/-- `v[7:0]` (00_scope R10). -/
def loByte (w : Word) : Byte := w.extractLsb' 0 8

/-- `sext_16` of a byte (00_scope R11). -/
def signExtend16 (d : Byte) : Word := d.signExtend 16

/-- `v & 0xF` as an unbounded number (00_scope R11, the operand of a half-carry test). -/
def lowNibble (v : Byte) : Nat := v.toNat % 16

/-- A truth value as one bit (00_scope R10). -/
def bitOf (b : Bool) : BitVec 1 := BitVec.ofBool b

end Sys2Proof.Machine
end

