-- ==== Sys2Proof/Config.lean ====
section
/-! DEFINITION. What an implementation of the core fixes (the parameters of 00_scope R9) and the free values,
which the spec leaves open. A parameter is plain data that `State` carries and no step changes; a free value is
an opaque constant, so that nothing can be proved about the number it gives. -/

namespace Sys2Proof

/-- `ILLEGAL_OPCODE_MODE` (00_scope R9, 92 D2): what an undefined opcode does (45_system R398). -/
inductive IllegalOpcodeMode where
  | lock | nop
  deriving DecidableEq, Repr

/-- `STOP_MODE` (00_scope R9, 92 D4): what `STOP` does (45_system R394). -/
inductive StopMode where
  | waitButton | refuse
  deriving DecidableEq, Repr

/-- `DMA_MODE` (00_scope R9, 92 D6): when an OAM transfer copies its bytes (20_memory R101, R102). -/
inductive DmaMode where
  | instant | timed
  deriving DecidableEq, Repr

/-- `WINDOW_LINE_MODE` (00_scope R9, 92 D7): where the window's line comes from (63_ppu R554). -/
inductive WindowLineMode where
  | counter | lyMinusWy
  deriving DecidableEq, Repr

/-- `IFIE_UPPER_READ` (00_scope R9, 92 D8): how bits 7..5 of `IF` and `IE` read (10_state R40). -/
inductive UpperRead where
  | ones | zeros
  deriving DecidableEq, Repr

/-- `RESET_PROFILE` (00_scope R9, 92 D10): the initial state (70_reset_and_hazards R630). -/
inductive ResetProfile where
  | postBoot | bootRom
  deriving DecidableEq, Repr

/-- `SerialDevice` (00_scope R9, 92 D17): no device, or one that answers `transfer` (62_serial_joypad R500). -/
inductive SerialDevice where
  | absent | attached
  deriving DecidableEq, Repr

/-- The parameters of 00_scope R9. The cartridge's contents stand in `State.mem`, its answers after a write in
`Config.cartridgeRead`; the audio reads in `Config.audioRead`. DESIGN CHOICE (log entry 1): the model carries them
in its state, so that every value of every parameter is covered. -/
structure Params where
  illegalOpcodeMode  : IllegalOpcodeMode
  haltBug            : Bool
  stopMode           : StopMode
  oamWriteBlock      : Bool
  dmaMode            : DmaMode
  windowLineMode     : WindowLineMode
  ifIeUpperRead      : UpperRead
  objFallthrough     : Bool
  resetProfile       : ResetProfile
  /-- `BOOT_ROM`: the bytes at 0x0000-0x00FF under the overlay, in the canonical form of `Machine.Memory`. -/
  bootRom            : List Host.Cell
  serialDevice       : SerialDevice
  postBootDivCounter : Word
  deriving DecidableEq, Repr

/-- The default of every parameter (00_scope R9, column "default"). -/
def Params.default : Params where
  illegalOpcodeMode  := .lock
  haltBug            := true
  stopMode           := .waitButton
  oamWriteBlock      := true
  dmaMode            := .instant
  windowLineMode     := .counter
  ifIeUpperRead      := .ones
  objFallthrough     := false
  resetProfile       := .postBoot
  bootRom            := []
  serialDevice       := .absent
  postBootDivCounter := 0xABCC

/-- FREE VALUE (log entry 8): the byte one read of an audio register returns (10_state R51, "an unconstrained
byte", one per read). The arguments are the master clock, the halt-bug bit, the pc at the read and the address:
together they tell apart any two reads of one run. -/
opaque Config.audioRead : Nat → Bool → Word → Word → Byte

/-- FREE VALUE (log entry 6): `Cartridge.read` once the cartridge has been written to (20_memory R86: "a function of
the cartridge state and the address"). The cartridge state is its contents and the writes it has received. -/
opaque Config.cartridgeRead : List Host.Cell → List (Word × Byte) → Word → Byte

/-- FREE VALUE (log entry 7): `SerialDevice.transfer` of an attached device (62_serial_joypad R503: "its result
depends only on its argument and the device's own state"). The device's state is the list of bytes sent before. -/
opaque Config.serialTransfer : List Byte → Byte → Byte

end Sys2Proof
end

