-- ==== Sys2Proof/Machine/Memory.lean ====
section
/-! DEFINITION. Memory as a list of (address, byte) cells in one canonical form: addresses strictly rising, and no
cell holding what an unlisted address reads as. -/

namespace Sys2Proof.Machine

abbrev Memory := List Host.Cell

/-- What an address with no cell reads as: memory nothing has written (10_state R30 "Draw"). DESIGN CHOICE
(log entry 2): 0x00. -/
def Memory.unlisted : Byte := 0x00

def Memory.get : Memory → Nat → Byte
  | [], _ => Memory.unlisted
  | c :: m, k => if c.1 = k then c.2 else Memory.get m k

/-- The memory without a cell at `k`. -/
def Memory.erase : Memory → Nat → Memory
  | [], _ => []
  | c :: m, k => if c.1 = k then Memory.erase m k else c :: Memory.erase m k

/-- The memory with a new cell at `k`, put before the first higher address. -/
def Memory.insert : Memory → Nat → Byte → Memory
  | [], k, v => [(k, v)]
  | c :: m, k, v => if k < c.1 then (k, v) :: c :: m else c :: Memory.insert m k v

/-- Store `v` at `k`; storing what an unlisted address reads as removes the cell. -/
def Memory.set (m : Memory) (k : Nat) (v : Byte) : Memory :=
  if v = Memory.unlisted then m.erase k else (m.erase k).insert k v

/-- The canonical form. -/
abbrev Memory.wf (m : Memory) : Prop :=
  List.Pairwise (fun c d => c.1 < d.1) m ∧ ∀ c ∈ m, c.2 ≠ Memory.unlisted

end Sys2Proof.Machine
end

