-- ==== Sys2Proof/Machine/State.lean ====
section
/-! DEFINITION. The machine's state as plain data, the two reason types, and reset (10_state, 70_reset_and_hazards). -/

namespace Sys2Proof.Machine

/-- The four flags, bits 7..4 of `F`; bits 3..0 are hard-wired 0 and are not stored (10_state R22, R25). -/
structure Flags where
  z : Bool
  n : Bool
  h : Bool
  c : Bool
  deriving DecidableEq, Repr

/-- The CPU mode (10_state R26). -/
inductive CpuMode where
  | running | halted | stopped | locked
  deriving DecidableEq, Repr

/-- The CPU register file and control state (10_state R20-R29). -/
structure Cpu where
  a : Byte
  f : Flags
  b : Byte
  c : Byte
  d : Byte
  e : Byte
  h : Byte
  l : Byte
  sp : Word
  pc : Word
  mode : CpuMode
  ime : Bool
  /-- `ei_delay`, 0, 1 or 2 (10_state R28). -/
  eiDelay : Fin 3
  haltBug : Bool
  deriving DecidableEq, Repr

/-- `IF` and `IE`, the five source bits of each (10_state R40). -/
structure Interrupts where
  flag : BitVec 5
  enable : BitVec 5
  deriving DecidableEq, Repr

/-- The timer's registers and internal state (10_state R36-R39, R52). -/
structure Timer where
  divCounter : Word
  tima : Byte
  tma : Byte
  tac : BitVec 3
  prevSample : Bool
  overflowPending : Bool
  deriving DecidableEq, Repr

/-- The PPU mode: H-blank 0, V-blank 1, OAM-scan 2, drawing 3 (00_scope R18, 10_state R53). -/
inductive PpuMode where
  | hblank | vblank | oamScan | drawing
  deriving DecidableEq, Repr

/-- A color index or a shade, two bits (00_scope R18). -/
abbrev Shade := BitVec 2

/-- The framebuffer as its written lines, line number and 160 shades, lines rising; an unlisted line is all shade 0
(10_state R30; DESIGN CHOICE, log entry 3). -/
abbrev Framebuffer := List (Nat × List Shade)

/-- The PPU's registers and internal state (10_state R41-R48, R53). `statEnables` is `STAT[6:3]`. -/
structure Ppu where
  lcdc : Byte
  statEnables : BitVec 4
  scy : Byte
  scx : Byte
  ly : Byte
  lyc : Byte
  bgp : Byte
  obp0 : Byte
  obp1 : Byte
  wy : Byte
  wx : Byte
  mode : PpuMode
  dot : Nat
  coincidence : Bool
  windowLine : Byte
  fb : Framebuffer
  deriving DecidableEq, Repr

/-- `SB`, the two stored bits of `SC`, and the bytes given to the link, newest first (10_state R34, R35,
64_scheduler R605). -/
structure Serial where
  sb : Byte
  transfer : Bool
  internalClock : Bool
  sent : List Byte
  deriving DecidableEq, Repr

/-- The eight keys (10_state R55). -/
inductive Button where
  | a | b | select | start | right | left | up | down
  deriving DecidableEq, Repr

/-- The state of the keys, true = pressed (10_state R55). -/
structure Buttons where
  a : Bool
  b : Bool
  select : Bool
  start : Bool
  right : Bool
  left : Bool
  up : Bool
  down : Bool
  deriving DecidableEq, Repr

/-- `P1[5:4]` and the keys (10_state R33, R55). -/
structure Joypad where
  select : BitVec 2
  buttons : Buttons
  deriving DecidableEq, Repr

/-- One host call `set_button(button, pressed)` (62_serial_joypad R511). -/
structure ButtonEvent where
  button : Button
  pressed : Bool
  deriving DecidableEq, Repr

/-- The `DMA` register and the timed engine's state (10_state R46, R54). -/
structure Dma where
  page : Byte
  active : Bool
  source : Word
  index : Nat
  deriving DecidableEq, Repr

/-- The two causes of `IllegalOpcode` (60_exceptions R425). -/
inductive IllegalCause where
  | undefinedOpcode | refusedStop
  deriving DecidableEq, Repr

/-- The report `IllegalOpcode(op, addr)` with its cause (60_exceptions R425). -/
structure IllegalOpcode where
  op : Byte
  addr : Word
  cause : IllegalCause
  deriving DecidableEq, Repr

/-- The machine's state: "one state record holding the CPU, the memories, the I/O registers and device state"
(64_scheduler R606). `mem` holds VRAM, WRAM, OAM, HRAM and the cartridge's contents, keyed by bus address.
The model's own fields: `elapsed`, the M-cycles the running CPU step returns (log entry 13), and `inputs`, the host
events before each coming step (log entry 14). -/
structure State where
  cpu : Cpu
  irq : Interrupts
  timer : Timer
  ppu : Ppu
  serial : Serial
  joypad : Joypad
  dma : Dma
  mem : Memory
  /-- The cartridge's state: the writes it has received, newest first (20_memory R86; log entry 6). -/
  cartWrites : List (Word × Byte)
  bootDisabled : Bool
  /-- The master clock in T-cycles (64_scheduler R603). -/
  cycles : Nat
  /-- The reported `IllegalOpcode`, if any (64_scheduler R605). -/
  diagnostic : Option IllegalOpcode
  elapsed : Nat
  inputs : List (List ButtonEvent)
  cfg : Params
  deriving DecidableEq, Repr

/-- Why the machine stops: never. "Memory accesses never fault", there is no alignment, arithmetic or privilege fault
(60_exceptions R424), and an undefined opcode is a next state in mode locked (45_system R398). -/
inductive Fault where
  deriving DecidableEq, Repr

/-- Why the model gives an instruction no meaning. -/
inductive Refusal where
  /-- Raised by an arm of `exec` whose instruction has no meaning yet; safe. No arm raises it. -/
  | notModelled (mnemonic : String)
  deriving DecidableEq, Repr

/-- The outcome of a step or of an instruction. -/
abbrev Result := Host.Outcome State Fault Refusal

/-- The values reset leaves unspecified (`Draw`, 70_reset_and_hazards R630), in either profile. -/
structure Draws where
  a : Byte
  f : Flags
  b : Byte
  c : Byte
  d : Byte
  e : Byte
  h : Byte
  l : Byte
  sp : Word
  joypadSelect : BitVec 2
  sb : Byte
  transfer : Bool
  internalClock : Bool
  divCounter : Word
  tima : Byte
  tma : Byte
  tac : BitVec 3
  irqFlag : BitVec 5
  irqEnable : BitVec 5
  statEnables : BitVec 4
  scy : Byte
  scx : Byte
  lyc : Byte
  dmaPage : Byte
  bgp : Byte
  obp0 : Byte
  obp1 : Byte
  wy : Byte
  wx : Byte
  dmaSource : Word
  dmaIndex : Nat
  mem : Memory
  fb : Framebuffer
  deriving DecidableEq, Repr

/-- DESIGN CHOICE (log entries 2-5): every unspecified value of `State.reset` is zero, memory and framebuffer with
nothing listed. -/
def Draws.zero : Draws where
  a := 0
  f := ⟨false, false, false, false⟩
  b := 0
  c := 0
  d := 0
  e := 0
  h := 0
  l := 0
  sp := 0
  joypadSelect := 0
  sb := 0
  transfer := false
  internalClock := false
  divCounter := 0
  tima := 0
  tma := 0
  tac := 0
  irqFlag := 0
  irqEnable := 0
  statEnables := 0
  scy := 0
  scx := 0
  lyc := 0
  dmaPage := 0
  bgp := 0
  obp0 := 0
  obp1 := 0
  wy := 0
  wx := 0
  dmaSource := 0
  dmaIndex := 0
  mem := []
  fb := []

/-- All keys released (10_state R55). -/
def Buttons.released : Buttons := ⟨false, false, false, false, false, false, false, false⟩

/-- The state the boot ROM leaves, entry 0x0100 (70_reset_and_hazards R630, column `post_boot`; 10_state R20, R32,
R52, R53). -/
def State.postBoot (p : Params) (u : Draws) : State where
  cpu :=
    { a := 0x01, f := ⟨true, false, true, true⟩, b := 0x00, c := 0x13, d := 0x00, e := 0xD8, h := 0x01, l := 0x4D,
      sp := 0xFFFE, pc := 0x0100, mode := .running, ime := false, eiDelay := 0, haltBug := false }
  irq := { flag := 0x01, enable := 0x00 }
  timer :=
    { divCounter := p.postBootDivCounter, tima := 0x00, tma := 0x00, tac := 0, prevSample := false,
      overflowPending := false }
  ppu :=
    { lcdc := 0x91, statEnables := 0, scy := 0x00, scx := 0x00, ly := 0, lyc := 0x00, bgp := 0xFC, obp0 := u.obp0,
      obp1 := u.obp1, wy := 0x00, wx := 0x00, mode := .oamScan, dot := 0, coincidence := true, windowLine := 0,
      fb := u.fb }
  serial := { sb := 0x00, transfer := false, internalClock := false, sent := [] }
  joypad := { select := 0, buttons := Buttons.released }
  dma := { page := 0xFF, active := false, source := u.dmaSource, index := u.dmaIndex }
  mem := u.mem
  cartWrites := []
  bootDisabled := true
  cycles := 0
  diagnostic := none
  elapsed := 0
  inputs := []
  cfg := p

/-- Power-on with the boot-ROM overlay, entry 0x0000 (70_reset_and_hazards R630, column `boot_rom`; 10_state R20, R32,
R52, R53). -/
def State.powerOn (p : Params) (u : Draws) : State where
  cpu :=
    { a := u.a, f := u.f, b := u.b, c := u.c, d := u.d, e := u.e, h := u.h, l := u.l, sp := u.sp, pc := 0x0000,
      mode := .running, ime := false, eiDelay := 0, haltBug := false }
  irq := { flag := u.irqFlag, enable := u.irqEnable }
  timer :=
    { divCounter := u.divCounter, tima := u.tima, tma := u.tma, tac := u.tac, prevSample := false,
      overflowPending := false }
  ppu :=
    { lcdc := 0x00, statEnables := u.statEnables, scy := u.scy, scx := u.scx, ly := 0, lyc := u.lyc, bgp := u.bgp,
      obp0 := u.obp0, obp1 := u.obp1, wy := u.wy, wx := u.wx, mode := .hblank, dot := 0,
      coincidence := decide (u.lyc = 0), windowLine := 0, fb := u.fb }
  serial := { sb := u.sb, transfer := u.transfer, internalClock := u.internalClock, sent := [] }
  joypad := { select := u.joypadSelect, buttons := Buttons.released }
  dma := { page := u.dmaPage, active := false, source := u.dmaSource, index := u.dmaIndex }
  mem := u.mem
  cartWrites := []
  bootDisabled := false
  cycles := 0
  diagnostic := none
  elapsed := 0
  inputs := []
  cfg := p

/-- Reset under the parameters `p`, the unspecified values being `u` (70_reset_and_hazards R630). -/
def State.resetFrom (p : Params) (u : Draws) : State :=
  match p.resetProfile with
  | .postBoot => State.postBoot p u
  | .bootRom => State.powerOn p u

/-- Reset under the parameters `p` with every unspecified value zero. -/
def State.resetWith (p : Params) : State := State.resetFrom p Draws.zero

/-- The machine right after reset: the default parameters, every unspecified value zero (log entries 2-5). -/
def State.reset : State := State.resetWith Params.default

end Sys2Proof.Machine
end

