-- ==== Sys2Proof/Machine/Flags.lean ====
section
/-! DEFINITION. Every result and flag computation (41_alu8 R231-R246, 42_alu16 R282-R284, 43 R300-R313). Comparisons
are on unbounded integers (00_scope R11); a result is narrowed at the end (41_alu8 R247, 42_alu16 R285). -/

namespace Sys2Proof.Machine

/-! ### 8-bit arithmetic and logic -/

/-- `x + y + cin`: `ADD` with no carry in, `ADC` with `flag.C` (41_alu8 R231, R232). -/
def addResult (x y : Byte) (cin : Bool) : Byte × Flags :=
  let total := x.toNat + y.toNat + cin.toNat
  let v := BitVec.ofNat 8 total
  (v, { z := v == 0, n := false, h := decide (lowNibble x + lowNibble y + cin.toNat > 0xF), c := decide (total > 0xFF) })

/-- `x - y - cin`: `SUB`, `CP` with no borrow in, `SBC` with `flag.C` (41_alu8 R233-R235). -/
def subResult (x y : Byte) (cin : Bool) : Byte × Flags :=
  let v := x - y - BitVec.ofNat 8 cin.toNat
  (v,
    { z := v == 0, n := true, h := decide (lowNibble x < lowNibble y + cin.toNat)
      c := decide (x.toNat < y.toNat + cin.toNat) })

/-- `AND`, `XOR`, `OR`: Z from the result, N = C = 0, H as given (41_alu8 R236-R238). -/
def logicResult (v : Byte) (half : Bool) : Byte × Flags := (v, { z := v == 0, n := false, h := half, c := false })

/-- The eight operations of the ALU field; `CP` computes as `SUB` (30_encoding R135, 41_alu8 R231-R238). -/
def aluResult (op : AluOp) (x y : Byte) (carry : Bool) : Byte × Flags :=
  match op with
  | .add => addResult x y false
  | .adc => addResult x y carry
  | .sub => subResult x y false
  | .sbc => subResult x y carry
  | .and => logicResult (x &&& y) true
  | .xor => logicResult (x ^^^ y) false
  | .or => logicResult (x ||| y) false
  | .cp => subResult x y false

/-- "as SUB but A is not modified" (41_alu8 R235). -/
def aluWritesA : AluOp → Bool
  | .cp => false
  | .add => true
  | .adc => true
  | .sub => true
  | .sbc => true
  | .and => true
  | .xor => true
  | .or => true

/-- `INC`: C unchanged (41_alu8 R239). -/
def incResult (old : Byte) (f : Flags) : Byte × Flags :=
  (old + 1, { f with z := old + 1 == 0, n := false, h := lowNibble old == 0xF })

/-- `DEC`: C unchanged (41_alu8 R241). -/
def decResult (old : Byte) (f : Flags) : Byte × Flags :=
  (old - 1, { f with z := old - 1 == 0, n := true, h := lowNibble old == 0x0 })

/-- `DAA`: both tests of the add branch are on `A` before either adjustment (41_alu8 R243). -/
def daaResult (a : Byte) (f : Flags) : Byte × Flags :=
  if f.n then
    let v := if f.c then a - 0x60 else a
    let v := if f.h then v - 0x06 else v
    (v, { f with z := v == 0, h := false })
  else
    let high := f.c || decide (a.toNat > 0x99)
    let v := if high then a + 0x60 else a
    let v := if f.h || decide (lowNibble a > 0x09) then v + 0x06 else v
    (v, { f with z := v == 0, h := false, c := high })

/-- `CPL`: Z and C unchanged (41_alu8 R244). -/
def cplFlags (f : Flags) : Flags := { f with n := true, h := true }

/-- `SCF`: Z unchanged (41_alu8 R245). -/
def scfFlags (f : Flags) : Flags := { f with n := false, h := false, c := true }

/-- `CCF`: Z unchanged (41_alu8 R246). -/
def ccfFlags (f : Flags) : Flags := { f with n := false, h := false, c := !f.c }

/-! ### 16-bit arithmetic -/

/-- `ADD HL, rr`: carries out of bits 11 and 15, Z unchanged (42_alu16 R282). -/
def addHlResult (x y : Word) (f : Flags) : Word × Flags :=
  (x + y,
    { f with
      n := false, h := decide (x.toNat % 0x1000 + y.toNat % 0x1000 > 0x0FFF)
      c := decide (x.toNat + y.toNat > 0xFFFF) })

/-- `SP + e`: the carries are those of the unsigned low-byte addition (42_alu16 R283, R284). -/
def spOffsetResult (sp : Word) (d : Byte) : Word × Flags :=
  (sp + signExtend16 d,
    { z := false, n := false, h := decide (lowNibble (loByte sp) + lowNibble d > 0x0F)
      c := decide ((loByte sp).toNat + d.toNat > 0xFF) })

/-! ### Rotates, shifts and bits -/

/-- The new byte and the bit shifted or rotated out (43 R305-R312). -/
def rotateResult (op : RotOp) (v : Byte) (carry : Bool) : Byte × Bool :=
  let b7 := v.getLsbD 7
  let b0 := v.getLsbD 0
  match op with
  | .rlc => (v <<< 1 ||| (bitOf b7).setWidth 8, b7)
  | .rrc => (v >>> 1 ||| (bitOf b0).setWidth 8 <<< 7, b0)
  | .rl => (v <<< 1 ||| (bitOf carry).setWidth 8, b7)
  | .rr => (v >>> 1 ||| (bitOf carry).setWidth 8 <<< 7, b0)
  | .sla => (v <<< 1, b7)
  | .sra => (v >>> 1 ||| v &&& 0x80, b0)
  | .swap => ((v &&& 0x0F) <<< 4 ||| v >>> 4, false)
  | .srl => (v >>> 1, b0)

/-- CB rotates and shifts: Z from the result, N = H = 0, C the bit moved out (43 §3). -/
def rotateFlags (v : Byte) (out : Bool) : Flags := { z := v == 0, n := false, h := false, c := out }

/-- Accumulator rotates: Z = N = H = 0 (43 R300). -/
def accRotateFlags (out : Bool) : Flags := { z := false, n := false, h := false, c := out }

/-- `BIT b`: Z is the inverted bit, N = 0, H = 1, C unchanged (43 R313). -/
def bitFlags (bit : Bool) (f : Flags) : Flags := { f with z := !bit, n := false, h := true }

/-- `1 << b` (43 R314, R315). -/
def bitMask (b : BitIndex) : Byte := 1 <<< b.toNat

end Sys2Proof.Machine
end

