-- ==== Sys2Proof/WellFormed.lean ====
section
/-! DEFINITION. Which instructions are complete. Every operand a constructor takes is a byte or a word, and every value
of it is legal (30_encoding R136, R140), so the one check is that the prefix row is not an instruction by itself. -/

namespace Sys2Proof

/-- "The prefix and its second byte form one instruction" (45_system R391): `cb_prefix` is the table's row for the
prefix, and the decoder goes on from it to the CB row its second byte selects (log entry 11). -/
def Instr.isPrefix : Instr → Bool
  | .cb_prefix _ => true
  | _ => false

/-- A complete instruction, one the decoder can give. -/
def Instr.wellFormed (i : Instr) : Bool := !i.isPrefix

end Sys2Proof
end

