-- ==== Sys2Proof/Decode.lean ====
section
/-! DEFINITION. The decoder, by the fields of 30_encoding R131-R143, and after it the encoder, row by row from
30_encoding R138, R139. -/

namespace Sys2Proof

open Machine

/-! ### The fields (30_encoding R131-R137) -/

/-- The operand field in the order B, C, D, E, H, L, (HL), A (30_encoding R132). -/
def operandOf : Nat → Operand8
  | 0 => .reg .b
  | 1 => .reg .c
  | 2 => .reg .d
  | 3 => .reg .e
  | 4 => .reg .h
  | 5 => .reg .l
  | 6 => .atHl
  | _ => .reg .a

/-- The pair field of loads and arithmetic (30_encoding R133). -/
def pairOf : Nat → Pair
  | 0 => .bc
  | 1 => .de
  | 2 => .hl
  | _ => .sp

/-- The pair field of `PUSH` and `POP` (30_encoding R133). -/
def stackPairOf : Nat → StackPair
  | 0 => .bc
  | 1 => .de
  | 2 => .hl
  | _ => .af

/-- The condition field, bits 4..3 (30_encoding R134). -/
def condOf : Nat → Cond
  | 0 => .nz
  | 1 => .z
  | 2 => .nc
  | _ => .c

/-- The ALU field (30_encoding R135). -/
def aluOf : Nat → AluOp
  | 0 => .add
  | 1 => .adc
  | 2 => .sub
  | 3 => .sbc
  | 4 => .and
  | 5 => .xor
  | 6 => .or
  | _ => .cp

/-- The operation field of the first CB group (30_encoding R137). -/
def rotOf : Nat → RotOp
  | 0 => .rlc
  | 1 => .rrc
  | 2 => .rl
  | 3 => .rr
  | 4 => .sla
  | 5 => .sra
  | 6 => .swap
  | _ => .srl

/-- The bit index field (30_encoding R137). -/
def bitIndexOf : Nat → BitIndex
  | 0 => .b0
  | 1 => .b1
  | 2 => .b2
  | 3 => .b3
  | 4 => .b4
  | 5 => .b5
  | 6 => .b6
  | _ => .b7

/-- The `RST` field (30_encoding R135). -/
def rstOf : Nat → RstVector
  | 0 => .v00
  | 1 => .v08
  | 2 => .v10
  | 3 => .v18
  | 4 => .v20
  | 5 => .v28
  | 6 => .v30
  | _ => .v38

/-! ### The rows an operand pattern selects (30_encoding R138, R139) -/

/-- `LD r, r'`, `LD r, (HL)`, `LD (HL), r`, and `HALT` in the place of `LD (HL), (HL)` (30_encoding R131). -/
def instrLd : Operand8 → Operand8 → Instr
  | .reg .b, .reg .b => .ld_b_b
  | .reg .b, .reg .c => .ld_b_c
  | .reg .b, .reg .d => .ld_b_d
  | .reg .b, .reg .e => .ld_b_e
  | .reg .b, .reg .h => .ld_b_h
  | .reg .b, .reg .l => .ld_b_l
  | .reg .b, .atHl => .ld_b_at_hl
  | .reg .b, .reg .a => .ld_b_a
  | .reg .c, .reg .b => .ld_c_b
  | .reg .c, .reg .c => .ld_c_c
  | .reg .c, .reg .d => .ld_c_d
  | .reg .c, .reg .e => .ld_c_e
  | .reg .c, .reg .h => .ld_c_h
  | .reg .c, .reg .l => .ld_c_l
  | .reg .c, .atHl => .ld_c_at_hl
  | .reg .c, .reg .a => .ld_c_a
  | .reg .d, .reg .b => .ld_d_b
  | .reg .d, .reg .c => .ld_d_c
  | .reg .d, .reg .d => .ld_d_d
  | .reg .d, .reg .e => .ld_d_e
  | .reg .d, .reg .h => .ld_d_h
  | .reg .d, .reg .l => .ld_d_l
  | .reg .d, .atHl => .ld_d_at_hl
  | .reg .d, .reg .a => .ld_d_a
  | .reg .e, .reg .b => .ld_e_b
  | .reg .e, .reg .c => .ld_e_c
  | .reg .e, .reg .d => .ld_e_d
  | .reg .e, .reg .e => .ld_e_e
  | .reg .e, .reg .h => .ld_e_h
  | .reg .e, .reg .l => .ld_e_l
  | .reg .e, .atHl => .ld_e_at_hl
  | .reg .e, .reg .a => .ld_e_a
  | .reg .h, .reg .b => .ld_h_b
  | .reg .h, .reg .c => .ld_h_c
  | .reg .h, .reg .d => .ld_h_d
  | .reg .h, .reg .e => .ld_h_e
  | .reg .h, .reg .h => .ld_h_h
  | .reg .h, .reg .l => .ld_h_l
  | .reg .h, .atHl => .ld_h_at_hl
  | .reg .h, .reg .a => .ld_h_a
  | .reg .l, .reg .b => .ld_l_b
  | .reg .l, .reg .c => .ld_l_c
  | .reg .l, .reg .d => .ld_l_d
  | .reg .l, .reg .e => .ld_l_e
  | .reg .l, .reg .h => .ld_l_h
  | .reg .l, .reg .l => .ld_l_l
  | .reg .l, .atHl => .ld_l_at_hl
  | .reg .l, .reg .a => .ld_l_a
  | .atHl, .reg .b => .ld_at_hl_b
  | .atHl, .reg .c => .ld_at_hl_c
  | .atHl, .reg .d => .ld_at_hl_d
  | .atHl, .reg .e => .ld_at_hl_e
  | .atHl, .reg .h => .ld_at_hl_h
  | .atHl, .reg .l => .ld_at_hl_l
  | .atHl, .atHl => .halt
  | .atHl, .reg .a => .ld_at_hl_a
  | .reg .a, .reg .b => .ld_a_b
  | .reg .a, .reg .c => .ld_a_c
  | .reg .a, .reg .d => .ld_a_d
  | .reg .a, .reg .e => .ld_a_e
  | .reg .a, .reg .h => .ld_a_h
  | .reg .a, .reg .l => .ld_a_l
  | .reg .a, .atHl => .ld_a_at_hl
  | .reg .a, .reg .a => .ld_a_a

/-- `LD r, n` and `LD (HL), n`. -/
def instrLdImm : Operand8 → Byte → Instr
  | .reg .b, n => .ld_b_n n
  | .reg .c, n => .ld_c_n n
  | .reg .d, n => .ld_d_n n
  | .reg .e, n => .ld_e_n n
  | .reg .h, n => .ld_h_n n
  | .reg .l, n => .ld_l_n n
  | .atHl, n => .ld_at_hl_n n
  | .reg .a, n => .ld_a_n n

/-- `alu[y] A, r[z]`. -/
def instrAlu : AluOp → Operand8 → Instr
  | .add, .reg .b => .add_a_b
  | .add, .reg .c => .add_a_c
  | .add, .reg .d => .add_a_d
  | .add, .reg .e => .add_a_e
  | .add, .reg .h => .add_a_h
  | .add, .reg .l => .add_a_l
  | .add, .atHl => .add_a_at_hl
  | .add, .reg .a => .add_a_a
  | .adc, .reg .b => .adc_a_b
  | .adc, .reg .c => .adc_a_c
  | .adc, .reg .d => .adc_a_d
  | .adc, .reg .e => .adc_a_e
  | .adc, .reg .h => .adc_a_h
  | .adc, .reg .l => .adc_a_l
  | .adc, .atHl => .adc_a_at_hl
  | .adc, .reg .a => .adc_a_a
  | .sub, .reg .b => .sub_b
  | .sub, .reg .c => .sub_c
  | .sub, .reg .d => .sub_d
  | .sub, .reg .e => .sub_e
  | .sub, .reg .h => .sub_h
  | .sub, .reg .l => .sub_l
  | .sub, .atHl => .sub_at_hl
  | .sub, .reg .a => .sub_a
  | .sbc, .reg .b => .sbc_a_b
  | .sbc, .reg .c => .sbc_a_c
  | .sbc, .reg .d => .sbc_a_d
  | .sbc, .reg .e => .sbc_a_e
  | .sbc, .reg .h => .sbc_a_h
  | .sbc, .reg .l => .sbc_a_l
  | .sbc, .atHl => .sbc_a_at_hl
  | .sbc, .reg .a => .sbc_a_a
  | .and, .reg .b => .and_b
  | .and, .reg .c => .and_c
  | .and, .reg .d => .and_d
  | .and, .reg .e => .and_e
  | .and, .reg .h => .and_h
  | .and, .reg .l => .and_l
  | .and, .atHl => .and_at_hl
  | .and, .reg .a => .and_a
  | .xor, .reg .b => .xor_b
  | .xor, .reg .c => .xor_c
  | .xor, .reg .d => .xor_d
  | .xor, .reg .e => .xor_e
  | .xor, .reg .h => .xor_h
  | .xor, .reg .l => .xor_l
  | .xor, .atHl => .xor_at_hl
  | .xor, .reg .a => .xor_a
  | .or, .reg .b => .or_b
  | .or, .reg .c => .or_c
  | .or, .reg .d => .or_d
  | .or, .reg .e => .or_e
  | .or, .reg .h => .or_h
  | .or, .reg .l => .or_l
  | .or, .atHl => .or_at_hl
  | .or, .reg .a => .or_a
  | .cp, .reg .b => .cp_b
  | .cp, .reg .c => .cp_c
  | .cp, .reg .d => .cp_d
  | .cp, .reg .e => .cp_e
  | .cp, .reg .h => .cp_h
  | .cp, .reg .l => .cp_l
  | .cp, .atHl => .cp_at_hl
  | .cp, .reg .a => .cp_a

/-- `alu[y] A, n`. -/
def instrAluImm : AluOp → Byte → Instr
  | .add, n => .add_a_n n
  | .adc, n => .adc_a_n n
  | .sub, n => .sub_n n
  | .sbc, n => .sbc_a_n n
  | .and, n => .and_n n
  | .xor, n => .xor_n n
  | .or, n => .or_n n
  | .cp, n => .cp_n n

/-- `INC r` and `INC (HL)`. -/
def instrInc : Operand8 → Instr
  | .reg .b => .inc_b
  | .reg .c => .inc_c
  | .reg .d => .inc_d
  | .reg .e => .inc_e
  | .reg .h => .inc_h
  | .reg .l => .inc_l
  | .atHl => .inc_at_hl
  | .reg .a => .inc_a

/-- `DEC r` and `DEC (HL)`. -/
def instrDec : Operand8 → Instr
  | .reg .b => .dec_b
  | .reg .c => .dec_c
  | .reg .d => .dec_d
  | .reg .e => .dec_e
  | .reg .h => .dec_h
  | .reg .l => .dec_l
  | .atHl => .dec_at_hl
  | .reg .a => .dec_a

/-- `LD rr, nn`. -/
def instrLdPair : Pair → Word → Instr
  | .bc, nn => .ld_bc_nn nn
  | .de, nn => .ld_de_nn nn
  | .hl, nn => .ld_hl_nn nn
  | .sp, nn => .ld_sp_nn nn

/-- `INC rr`. -/
def instrIncPair : Pair → Instr
  | .bc => .inc_bc
  | .de => .inc_de
  | .hl => .inc_hl
  | .sp => .inc_sp

/-- `DEC rr`. -/
def instrDecPair : Pair → Instr
  | .bc => .dec_bc
  | .de => .dec_de
  | .hl => .dec_hl
  | .sp => .dec_sp

/-- `ADD HL, rr`. -/
def instrAddHl : Pair → Instr
  | .bc => .add_hl_bc
  | .de => .add_hl_de
  | .hl => .add_hl_hl
  | .sp => .add_hl_sp

/-- `PUSH rr`. -/
def instrPush : StackPair → Instr
  | .bc => .push_bc
  | .de => .push_de
  | .hl => .push_hl
  | .af => .push_af

/-- `POP rr`. -/
def instrPop : StackPair → Instr
  | .bc => .pop_bc
  | .de => .pop_de
  | .hl => .pop_hl
  | .af => .pop_af

/-- `JR cc, e`. -/
def instrJrCond : Cond → Byte → Instr
  | .nz, e => .jr_nz_e e
  | .z, e => .jr_z_e e
  | .nc, e => .jr_nc_e e
  | .c, e => .jr_c_e e

/-- `JP cc, nn`. -/
def instrJpCond : Cond → Word → Instr
  | .nz, nn => .jp_nz_nn nn
  | .z, nn => .jp_z_nn nn
  | .nc, nn => .jp_nc_nn nn
  | .c, nn => .jp_c_nn nn

/-- `CALL cc, nn`. -/
def instrCallCond : Cond → Word → Instr
  | .nz, nn => .call_nz_nn nn
  | .z, nn => .call_z_nn nn
  | .nc, nn => .call_nc_nn nn
  | .c, nn => .call_c_nn nn

/-- `RET cc`. -/
def instrRetCond : Cond → Instr
  | .nz => .ret_nz
  | .z => .ret_z
  | .nc => .ret_nc
  | .c => .ret_c

/-- `RST vec`. -/
def instrRst : RstVector → Instr
  | .v00 => .rst_00
  | .v08 => .rst_08
  | .v10 => .rst_10
  | .v18 => .rst_18
  | .v20 => .rst_20
  | .v28 => .rst_28
  | .v30 => .rst_30
  | .v38 => .rst_38

/-- The CB rotates, shifts and `SWAP`. -/
def instrRot : RotOp → Operand8 → Instr
  | .rlc, .reg .b => .rlc_b
  | .rlc, .reg .c => .rlc_c
  | .rlc, .reg .d => .rlc_d
  | .rlc, .reg .e => .rlc_e
  | .rlc, .reg .h => .rlc_h
  | .rlc, .reg .l => .rlc_l
  | .rlc, .atHl => .rlc_at_hl
  | .rlc, .reg .a => .rlc_a
  | .rrc, .reg .b => .rrc_b
  | .rrc, .reg .c => .rrc_c
  | .rrc, .reg .d => .rrc_d
  | .rrc, .reg .e => .rrc_e
  | .rrc, .reg .h => .rrc_h
  | .rrc, .reg .l => .rrc_l
  | .rrc, .atHl => .rrc_at_hl
  | .rrc, .reg .a => .rrc_a
  | .rl, .reg .b => .rl_b
  | .rl, .reg .c => .rl_c
  | .rl, .reg .d => .rl_d
  | .rl, .reg .e => .rl_e
  | .rl, .reg .h => .rl_h
  | .rl, .reg .l => .rl_l
  | .rl, .atHl => .rl_at_hl
  | .rl, .reg .a => .rl_a
  | .rr, .reg .b => .rr_b
  | .rr, .reg .c => .rr_c
  | .rr, .reg .d => .rr_d
  | .rr, .reg .e => .rr_e
  | .rr, .reg .h => .rr_h
  | .rr, .reg .l => .rr_l
  | .rr, .atHl => .rr_at_hl
  | .rr, .reg .a => .rr_a
  | .sla, .reg .b => .sla_b
  | .sla, .reg .c => .sla_c
  | .sla, .reg .d => .sla_d
  | .sla, .reg .e => .sla_e
  | .sla, .reg .h => .sla_h
  | .sla, .reg .l => .sla_l
  | .sla, .atHl => .sla_at_hl
  | .sla, .reg .a => .sla_a
  | .sra, .reg .b => .sra_b
  | .sra, .reg .c => .sra_c
  | .sra, .reg .d => .sra_d
  | .sra, .reg .e => .sra_e
  | .sra, .reg .h => .sra_h
  | .sra, .reg .l => .sra_l
  | .sra, .atHl => .sra_at_hl
  | .sra, .reg .a => .sra_a
  | .swap, .reg .b => .swap_b
  | .swap, .reg .c => .swap_c
  | .swap, .reg .d => .swap_d
  | .swap, .reg .e => .swap_e
  | .swap, .reg .h => .swap_h
  | .swap, .reg .l => .swap_l
  | .swap, .atHl => .swap_at_hl
  | .swap, .reg .a => .swap_a
  | .srl, .reg .b => .srl_b
  | .srl, .reg .c => .srl_c
  | .srl, .reg .d => .srl_d
  | .srl, .reg .e => .srl_e
  | .srl, .reg .h => .srl_h
  | .srl, .reg .l => .srl_l
  | .srl, .atHl => .srl_at_hl
  | .srl, .reg .a => .srl_a

/-- `BIT b, o`. -/
def instrBit : BitIndex → Operand8 → Instr
  | .b0, .reg .b => .bit_0_b
  | .b0, .reg .c => .bit_0_c
  | .b0, .reg .d => .bit_0_d
  | .b0, .reg .e => .bit_0_e
  | .b0, .reg .h => .bit_0_h
  | .b0, .reg .l => .bit_0_l
  | .b0, .atHl => .bit_0_at_hl
  | .b0, .reg .a => .bit_0_a
  | .b1, .reg .b => .bit_1_b
  | .b1, .reg .c => .bit_1_c
  | .b1, .reg .d => .bit_1_d
  | .b1, .reg .e => .bit_1_e
  | .b1, .reg .h => .bit_1_h
  | .b1, .reg .l => .bit_1_l
  | .b1, .atHl => .bit_1_at_hl
  | .b1, .reg .a => .bit_1_a
  | .b2, .reg .b => .bit_2_b
  | .b2, .reg .c => .bit_2_c
  | .b2, .reg .d => .bit_2_d
  | .b2, .reg .e => .bit_2_e
  | .b2, .reg .h => .bit_2_h
  | .b2, .reg .l => .bit_2_l
  | .b2, .atHl => .bit_2_at_hl
  | .b2, .reg .a => .bit_2_a
  | .b3, .reg .b => .bit_3_b
  | .b3, .reg .c => .bit_3_c
  | .b3, .reg .d => .bit_3_d
  | .b3, .reg .e => .bit_3_e
  | .b3, .reg .h => .bit_3_h
  | .b3, .reg .l => .bit_3_l
  | .b3, .atHl => .bit_3_at_hl
  | .b3, .reg .a => .bit_3_a
  | .b4, .reg .b => .bit_4_b
  | .b4, .reg .c => .bit_4_c
  | .b4, .reg .d => .bit_4_d
  | .b4, .reg .e => .bit_4_e
  | .b4, .reg .h => .bit_4_h
  | .b4, .reg .l => .bit_4_l
  | .b4, .atHl => .bit_4_at_hl
  | .b4, .reg .a => .bit_4_a
  | .b5, .reg .b => .bit_5_b
  | .b5, .reg .c => .bit_5_c
  | .b5, .reg .d => .bit_5_d
  | .b5, .reg .e => .bit_5_e
  | .b5, .reg .h => .bit_5_h
  | .b5, .reg .l => .bit_5_l
  | .b5, .atHl => .bit_5_at_hl
  | .b5, .reg .a => .bit_5_a
  | .b6, .reg .b => .bit_6_b
  | .b6, .reg .c => .bit_6_c
  | .b6, .reg .d => .bit_6_d
  | .b6, .reg .e => .bit_6_e
  | .b6, .reg .h => .bit_6_h
  | .b6, .reg .l => .bit_6_l
  | .b6, .atHl => .bit_6_at_hl
  | .b6, .reg .a => .bit_6_a
  | .b7, .reg .b => .bit_7_b
  | .b7, .reg .c => .bit_7_c
  | .b7, .reg .d => .bit_7_d
  | .b7, .reg .e => .bit_7_e
  | .b7, .reg .h => .bit_7_h
  | .b7, .reg .l => .bit_7_l
  | .b7, .atHl => .bit_7_at_hl
  | .b7, .reg .a => .bit_7_a

/-- `RES b, o`. -/
def instrRes : BitIndex → Operand8 → Instr
  | .b0, .reg .b => .res_0_b
  | .b0, .reg .c => .res_0_c
  | .b0, .reg .d => .res_0_d
  | .b0, .reg .e => .res_0_e
  | .b0, .reg .h => .res_0_h
  | .b0, .reg .l => .res_0_l
  | .b0, .atHl => .res_0_at_hl
  | .b0, .reg .a => .res_0_a
  | .b1, .reg .b => .res_1_b
  | .b1, .reg .c => .res_1_c
  | .b1, .reg .d => .res_1_d
  | .b1, .reg .e => .res_1_e
  | .b1, .reg .h => .res_1_h
  | .b1, .reg .l => .res_1_l
  | .b1, .atHl => .res_1_at_hl
  | .b1, .reg .a => .res_1_a
  | .b2, .reg .b => .res_2_b
  | .b2, .reg .c => .res_2_c
  | .b2, .reg .d => .res_2_d
  | .b2, .reg .e => .res_2_e
  | .b2, .reg .h => .res_2_h
  | .b2, .reg .l => .res_2_l
  | .b2, .atHl => .res_2_at_hl
  | .b2, .reg .a => .res_2_a
  | .b3, .reg .b => .res_3_b
  | .b3, .reg .c => .res_3_c
  | .b3, .reg .d => .res_3_d
  | .b3, .reg .e => .res_3_e
  | .b3, .reg .h => .res_3_h
  | .b3, .reg .l => .res_3_l
  | .b3, .atHl => .res_3_at_hl
  | .b3, .reg .a => .res_3_a
  | .b4, .reg .b => .res_4_b
  | .b4, .reg .c => .res_4_c
  | .b4, .reg .d => .res_4_d
  | .b4, .reg .e => .res_4_e
  | .b4, .reg .h => .res_4_h
  | .b4, .reg .l => .res_4_l
  | .b4, .atHl => .res_4_at_hl
  | .b4, .reg .a => .res_4_a
  | .b5, .reg .b => .res_5_b
  | .b5, .reg .c => .res_5_c
  | .b5, .reg .d => .res_5_d
  | .b5, .reg .e => .res_5_e
  | .b5, .reg .h => .res_5_h
  | .b5, .reg .l => .res_5_l
  | .b5, .atHl => .res_5_at_hl
  | .b5, .reg .a => .res_5_a
  | .b6, .reg .b => .res_6_b
  | .b6, .reg .c => .res_6_c
  | .b6, .reg .d => .res_6_d
  | .b6, .reg .e => .res_6_e
  | .b6, .reg .h => .res_6_h
  | .b6, .reg .l => .res_6_l
  | .b6, .atHl => .res_6_at_hl
  | .b6, .reg .a => .res_6_a
  | .b7, .reg .b => .res_7_b
  | .b7, .reg .c => .res_7_c
  | .b7, .reg .d => .res_7_d
  | .b7, .reg .e => .res_7_e
  | .b7, .reg .h => .res_7_h
  | .b7, .reg .l => .res_7_l
  | .b7, .atHl => .res_7_at_hl
  | .b7, .reg .a => .res_7_a

/-- `SET b, o`. -/
def instrSet : BitIndex → Operand8 → Instr
  | .b0, .reg .b => .set_0_b
  | .b0, .reg .c => .set_0_c
  | .b0, .reg .d => .set_0_d
  | .b0, .reg .e => .set_0_e
  | .b0, .reg .h => .set_0_h
  | .b0, .reg .l => .set_0_l
  | .b0, .atHl => .set_0_at_hl
  | .b0, .reg .a => .set_0_a
  | .b1, .reg .b => .set_1_b
  | .b1, .reg .c => .set_1_c
  | .b1, .reg .d => .set_1_d
  | .b1, .reg .e => .set_1_e
  | .b1, .reg .h => .set_1_h
  | .b1, .reg .l => .set_1_l
  | .b1, .atHl => .set_1_at_hl
  | .b1, .reg .a => .set_1_a
  | .b2, .reg .b => .set_2_b
  | .b2, .reg .c => .set_2_c
  | .b2, .reg .d => .set_2_d
  | .b2, .reg .e => .set_2_e
  | .b2, .reg .h => .set_2_h
  | .b2, .reg .l => .set_2_l
  | .b2, .atHl => .set_2_at_hl
  | .b2, .reg .a => .set_2_a
  | .b3, .reg .b => .set_3_b
  | .b3, .reg .c => .set_3_c
  | .b3, .reg .d => .set_3_d
  | .b3, .reg .e => .set_3_e
  | .b3, .reg .h => .set_3_h
  | .b3, .reg .l => .set_3_l
  | .b3, .atHl => .set_3_at_hl
  | .b3, .reg .a => .set_3_a
  | .b4, .reg .b => .set_4_b
  | .b4, .reg .c => .set_4_c
  | .b4, .reg .d => .set_4_d
  | .b4, .reg .e => .set_4_e
  | .b4, .reg .h => .set_4_h
  | .b4, .reg .l => .set_4_l
  | .b4, .atHl => .set_4_at_hl
  | .b4, .reg .a => .set_4_a
  | .b5, .reg .b => .set_5_b
  | .b5, .reg .c => .set_5_c
  | .b5, .reg .d => .set_5_d
  | .b5, .reg .e => .set_5_e
  | .b5, .reg .h => .set_5_h
  | .b5, .reg .l => .set_5_l
  | .b5, .atHl => .set_5_at_hl
  | .b5, .reg .a => .set_5_a
  | .b6, .reg .b => .set_6_b
  | .b6, .reg .c => .set_6_c
  | .b6, .reg .d => .set_6_d
  | .b6, .reg .e => .set_6_e
  | .b6, .reg .h => .set_6_h
  | .b6, .reg .l => .set_6_l
  | .b6, .atHl => .set_6_at_hl
  | .b6, .reg .a => .set_6_a
  | .b7, .reg .b => .set_7_b
  | .b7, .reg .c => .set_7_c
  | .b7, .reg .d => .set_7_d
  | .b7, .reg .e => .set_7_e
  | .b7, .reg .h => .set_7_h
  | .b7, .reg .l => .set_7_l
  | .b7, .atHl => .set_7_at_hl
  | .b7, .reg .a => .set_7_a

/-! ### Lengths (30_encoding R130) -/

/-- The opcodes of format `op_nn`. -/
def threeByteOpcodes : List Byte :=
  [0x01, 0x08, 0x11, 0x21, 0x31, 0xC2, 0xC3, 0xC4, 0xCA, 0xCC, 0xCD, 0xD2, 0xD4, 0xDA, 0xDC, 0xEA, 0xFA]

/-- The opcodes of formats `op_n` and `op_e`, `STOP` (30_encoding R142) and the CB prefix. -/
def twoByteOpcodes : List Byte :=
  [0x06, 0x0E, 0x10, 0x16, 0x18, 0x1E, 0x20, 0x26, 0x28, 0x2E, 0x30, 0x36, 0x38, 0x3E, 0xC6, 0xCB, 0xCE, 0xD6,
   0xDE, 0xE0, 0xE6, 0xE8, 0xEE, 0xF0, 0xF6, 0xF8, 0xFE]

/-- "The length of an instruction is determined by its first byte alone" (30_encoding R130). -/
def instrLength (op : Byte) : Nat :=
  if op ∈ threeByteOpcodes then 3 else if op ∈ twoByteOpcodes then 2 else 1

/-! ### The decoder (30_encoding R143) -/

/-- Quarter x = 0 of the base map (30_encoding R131, R138). -/
def decodeQuarter0 (y z : Nat) (n : Byte) (nn : Word) : Instr :=
  match z with
  | 0 =>
    match y with
    | 0 => .nop
    | 1 => .ld_at_nn_sp nn
    | 2 => .stop n
    | 3 => .jr_e n
    | _ => instrJrCond (condOf (y - 4)) n
  | 1 => if y % 2 = 0 then instrLdPair (pairOf (y / 2)) nn else instrAddHl (pairOf (y / 2))
  | 2 =>
    match y with
    | 0 => .ld_at_bc_a
    | 1 => .ld_a_at_bc
    | 2 => .ld_at_de_a
    | 3 => .ld_a_at_de
    | 4 => .ld_at_hli_a
    | 5 => .ld_a_at_hli
    | 6 => .ld_at_hld_a
    | _ => .ld_a_at_hld
  | 3 => if y % 2 = 0 then instrIncPair (pairOf (y / 2)) else instrDecPair (pairOf (y / 2))
  | 4 => instrInc (operandOf y)
  | 5 => instrDec (operandOf y)
  | 6 => instrLdImm (operandOf y) n
  | _ =>
    match y with
    | 0 => .rlca
    | 1 => .rrca
    | 2 => .rla
    | 3 => .rra
    | 4 => .daa
    | 5 => .cpl
    | 6 => .scf
    | _ => .ccf

/-- Quarter x = 3 of the base map (30_encoding R131, R138, R140). -/
def decodeQuarter3 (y z : Nat) (n : Byte) (nn : Word) : Instr :=
  match z with
  | 0 =>
    match y with
    | 4 => .ldh_at_n_a n
    | 5 => .add_sp_e n
    | 6 => .ldh_a_at_n n
    | 7 => .ld_hl_sp_e n
    | _ => instrRetCond (condOf y)
  | 1 =>
    match y with
    | 1 => .ret
    | 3 => .reti
    | 5 => .jp_hl
    | 7 => .ld_sp_hl
    | _ => instrPop (stackPairOf (y / 2))
  | 2 =>
    match y with
    | 4 => .ld_at_c_a
    | 5 => .ld_at_nn_a nn
    | 6 => .ld_a_at_c
    | 7 => .ld_a_at_nn nn
    | _ => instrJpCond (condOf y) nn
  | 3 =>
    match y with
    | 0 => .jp_nn nn
    | 1 => .cb_prefix n
    | 2 => .undefined_d3
    | 3 => .undefined_db
    | 4 => .undefined_e3
    | 5 => .undefined_eb
    | 6 => .di
    | _ => .ei
  | 4 =>
    match y with
    | 4 => .undefined_e4
    | 5 => .undefined_ec
    | 6 => .undefined_f4
    | 7 => .undefined_fc
    | _ => instrCallCond (condOf y) nn
  | 5 =>
    match y with
    | 1 => .call_nn nn
    | 3 => .undefined_dd
    | 5 => .undefined_ed
    | 7 => .undefined_fd
    | _ => instrPush (stackPairOf (y / 2))
  | 6 => instrAluImm (aluOf y) n
  | _ => instrRst (rstOf y)

/-- The base map: the row of the first byte, with its immediates (30_encoding R131, R136, R138). -/
def decodeBase (op b1 b2 : Byte) : Instr :=
  let y := op.toNat / 8 % 8
  let z := op.toNat % 8
  match op.toNat / 64 with
  | 0 => decodeQuarter0 y z b1 (word b2 b1)
  | 1 => instrLd (operandOf y) (operandOf z)
  | 2 => instrAlu (aluOf y) (operandOf z)
  | _ => decodeQuarter3 y z b1 (word b2 b1)

/-- The CB map (30_encoding R137, R139). -/
def decodeCb (c : Byte) : Instr :=
  let y := c.toNat / 8 % 8
  let o := operandOf (c.toNat % 8)
  match c.toNat / 64 with
  | 0 => instrRot (rotOf y) o
  | 1 => instrBit (bitIndexOf y) o
  | 2 => instrRes (bitIndexOf y) o
  | _ => instrSet (bitIndexOf y) o

/-- The instruction of an opcode byte and the two bytes after it: the base map, and from the prefix on into the CB map
(30_encoding R141, R143). Bytes beyond the instruction's length do not matter. -/
def decodeBytes (op b1 b2 : Byte) : Instr :=
  match decodeBase op b1 b2 with
  | .cb_prefix c => decodeCb c
  | i => i

/-- Why a byte string is not an instruction: it ends too early. "every byte sequence decodes" otherwise
(30_encoding R143). -/
inductive DecodeError where
  /-- No byte at all. -/
  | noOpcode
  /-- The opcode's immediate or CB byte is missing. -/
  | truncated (op : Byte)
  deriving DecidableEq, Repr

/-- The instruction at the head of a byte string and the bytes after it. -/
def decode : List Byte → Except DecodeError (Instr × List Byte)
  | [] => .error .noOpcode
  | op :: rest =>
    match instrLength op, rest with
    | 1, rest => .ok (decodeBytes op 0 0, rest)
    | 2, b1 :: rest => .ok (decodeBytes op b1 0, rest)
    | 3, b1 :: b2 :: rest => .ok (decodeBytes op b1 b2, rest)
    | _, _ => .error (.truncated op)

/-! ### The opcode table's numbering (log entry 12) -/

/-- The bytes, up to the longest instruction, of an instruction whose bits the table numbers as `w`: the first byte in
bits 7..0, the second in bits 15..8; but a CB row is numbered `(0xCB << 8) | second byte` (30_encoding, introduction),
so with the prefix in bits 15..8 it is the first byte. Bits above `nbits` are 0. -/
def tableBytes (nbits w : Nat) : List Byte :=
  let v := w % 2 ^ nbits
  let b0 := BitVec.ofNat 8 v
  let b1 := BitVec.ofNat 8 (v / 256)
  let b2 := BitVec.ofNat 8 (v / 65536)
  if 8 < nbits ∧ b1 = 0xCB then [b1, b0, b2] else [b0, b1, b2]

/-- The instruction the decoder reads from a table row's bits. A row of 8 bits is a row of the base map, so the answer
is the base map's row: for the prefix byte `cb_prefix`, from which `decodeBytes` goes on (log entries 11, 12). -/
def decodeTableWord (nbits w : Nat) : Option Instr :=
  if nbits ≤ 8 then
    match tableBytes nbits w with
    | op :: b1 :: b2 :: _ => some (decodeBase op b1 b2)
    | _ => none
  else
    match decode (tableBytes nbits w) with
    | .ok (i, _) => some i
    | .error _ => none

/-! ### The encoder (30_encoding R136, R138, R139) -/

/-- The bytes of an instruction, in the order they stand in memory. -/
def encode : Instr → List Byte
  | .ld_bc_nn nn => [0x01, loByte nn, hiByte nn]
  | .ld_b_n n => [0x06, n]
  | .ld_at_nn_sp nn => [0x08, loByte nn, hiByte nn]
  | .ld_c_n n => [0x0E, n]
  | .stop n => [0x10, n]
  | .ld_de_nn nn => [0x11, loByte nn, hiByte nn]
  | .ld_d_n n => [0x16, n]
  | .jr_e e => [0x18, e]
  | .ld_e_n n => [0x1E, n]
  | .jr_nz_e e => [0x20, e]
  | .ld_hl_nn nn => [0x21, loByte nn, hiByte nn]
  | .ld_h_n n => [0x26, n]
  | .jr_z_e e => [0x28, e]
  | .ld_l_n n => [0x2E, n]
  | .jr_nc_e e => [0x30, e]
  | .ld_sp_nn nn => [0x31, loByte nn, hiByte nn]
  | .ld_at_hl_n n => [0x36, n]
  | .jr_c_e e => [0x38, e]
  | .ld_a_n n => [0x3E, n]
  | .jp_nz_nn nn => [0xC2, loByte nn, hiByte nn]
  | .jp_nn nn => [0xC3, loByte nn, hiByte nn]
  | .call_nz_nn nn => [0xC4, loByte nn, hiByte nn]
  | .add_a_n n => [0xC6, n]
  | .jp_z_nn nn => [0xCA, loByte nn, hiByte nn]
  | .cb_prefix c => [0xCB, c]
  | .call_z_nn nn => [0xCC, loByte nn, hiByte nn]
  | .call_nn nn => [0xCD, loByte nn, hiByte nn]
  | .adc_a_n n => [0xCE, n]
  | .jp_nc_nn nn => [0xD2, loByte nn, hiByte nn]
  | .call_nc_nn nn => [0xD4, loByte nn, hiByte nn]
  | .sub_n n => [0xD6, n]
  | .jp_c_nn nn => [0xDA, loByte nn, hiByte nn]
  | .call_c_nn nn => [0xDC, loByte nn, hiByte nn]
  | .sbc_a_n n => [0xDE, n]
  | .ldh_at_n_a n => [0xE0, n]
  | .and_n n => [0xE6, n]
  | .add_sp_e e => [0xE8, e]
  | .ld_at_nn_a nn => [0xEA, loByte nn, hiByte nn]
  | .xor_n n => [0xEE, n]
  | .ldh_a_at_n n => [0xF0, n]
  | .or_n n => [0xF6, n]
  | .ld_hl_sp_e e => [0xF8, e]
  | .ld_a_at_nn nn => [0xFA, loByte nn, hiByte nn]
  | .cp_n n => [0xFE, n]
  | .nop => [0x00]
  | .ld_at_bc_a => [0x02]
  | .inc_bc => [0x03]
  | .inc_b => [0x04]
  | .dec_b => [0x05]
  | .rlca => [0x07]
  | .add_hl_bc => [0x09]
  | .ld_a_at_bc => [0x0A]
  | .dec_bc => [0x0B]
  | .inc_c => [0x0C]
  | .dec_c => [0x0D]
  | .rrca => [0x0F]
  | .ld_at_de_a => [0x12]
  | .inc_de => [0x13]
  | .inc_d => [0x14]
  | .dec_d => [0x15]
  | .rla => [0x17]
  | .add_hl_de => [0x19]
  | .ld_a_at_de => [0x1A]
  | .dec_de => [0x1B]
  | .inc_e => [0x1C]
  | .dec_e => [0x1D]
  | .rra => [0x1F]
  | .ld_at_hli_a => [0x22]
  | .inc_hl => [0x23]
  | .inc_h => [0x24]
  | .dec_h => [0x25]
  | .daa => [0x27]
  | .add_hl_hl => [0x29]
  | .ld_a_at_hli => [0x2A]
  | .dec_hl => [0x2B]
  | .inc_l => [0x2C]
  | .dec_l => [0x2D]
  | .cpl => [0x2F]
  | .ld_at_hld_a => [0x32]
  | .inc_sp => [0x33]
  | .inc_at_hl => [0x34]
  | .dec_at_hl => [0x35]
  | .scf => [0x37]
  | .add_hl_sp => [0x39]
  | .ld_a_at_hld => [0x3A]
  | .dec_sp => [0x3B]
  | .inc_a => [0x3C]
  | .dec_a => [0x3D]
  | .ccf => [0x3F]
  | .ld_b_b => [0x40]
  | .ld_b_c => [0x41]
  | .ld_b_d => [0x42]
  | .ld_b_e => [0x43]
  | .ld_b_h => [0x44]
  | .ld_b_l => [0x45]
  | .ld_b_at_hl => [0x46]
  | .ld_b_a => [0x47]
  | .ld_c_b => [0x48]
  | .ld_c_c => [0x49]
  | .ld_c_d => [0x4A]
  | .ld_c_e => [0x4B]
  | .ld_c_h => [0x4C]
  | .ld_c_l => [0x4D]
  | .ld_c_at_hl => [0x4E]
  | .ld_c_a => [0x4F]
  | .ld_d_b => [0x50]
  | .ld_d_c => [0x51]
  | .ld_d_d => [0x52]
  | .ld_d_e => [0x53]
  | .ld_d_h => [0x54]
  | .ld_d_l => [0x55]
  | .ld_d_at_hl => [0x56]
  | .ld_d_a => [0x57]
  | .ld_e_b => [0x58]
  | .ld_e_c => [0x59]
  | .ld_e_d => [0x5A]
  | .ld_e_e => [0x5B]
  | .ld_e_h => [0x5C]
  | .ld_e_l => [0x5D]
  | .ld_e_at_hl => [0x5E]
  | .ld_e_a => [0x5F]
  | .ld_h_b => [0x60]
  | .ld_h_c => [0x61]
  | .ld_h_d => [0x62]
  | .ld_h_e => [0x63]
  | .ld_h_h => [0x64]
  | .ld_h_l => [0x65]
  | .ld_h_at_hl => [0x66]
  | .ld_h_a => [0x67]
  | .ld_l_b => [0x68]
  | .ld_l_c => [0x69]
  | .ld_l_d => [0x6A]
  | .ld_l_e => [0x6B]
  | .ld_l_h => [0x6C]
  | .ld_l_l => [0x6D]
  | .ld_l_at_hl => [0x6E]
  | .ld_l_a => [0x6F]
  | .ld_at_hl_b => [0x70]
  | .ld_at_hl_c => [0x71]
  | .ld_at_hl_d => [0x72]
  | .ld_at_hl_e => [0x73]
  | .ld_at_hl_h => [0x74]
  | .ld_at_hl_l => [0x75]
  | .halt => [0x76]
  | .ld_at_hl_a => [0x77]
  | .ld_a_b => [0x78]
  | .ld_a_c => [0x79]
  | .ld_a_d => [0x7A]
  | .ld_a_e => [0x7B]
  | .ld_a_h => [0x7C]
  | .ld_a_l => [0x7D]
  | .ld_a_at_hl => [0x7E]
  | .ld_a_a => [0x7F]
  | .add_a_b => [0x80]
  | .add_a_c => [0x81]
  | .add_a_d => [0x82]
  | .add_a_e => [0x83]
  | .add_a_h => [0x84]
  | .add_a_l => [0x85]
  | .add_a_at_hl => [0x86]
  | .add_a_a => [0x87]
  | .adc_a_b => [0x88]
  | .adc_a_c => [0x89]
  | .adc_a_d => [0x8A]
  | .adc_a_e => [0x8B]
  | .adc_a_h => [0x8C]
  | .adc_a_l => [0x8D]
  | .adc_a_at_hl => [0x8E]
  | .adc_a_a => [0x8F]
  | .sub_b => [0x90]
  | .sub_c => [0x91]
  | .sub_d => [0x92]
  | .sub_e => [0x93]
  | .sub_h => [0x94]
  | .sub_l => [0x95]
  | .sub_at_hl => [0x96]
  | .sub_a => [0x97]
  | .sbc_a_b => [0x98]
  | .sbc_a_c => [0x99]
  | .sbc_a_d => [0x9A]
  | .sbc_a_e => [0x9B]
  | .sbc_a_h => [0x9C]
  | .sbc_a_l => [0x9D]
  | .sbc_a_at_hl => [0x9E]
  | .sbc_a_a => [0x9F]
  | .and_b => [0xA0]
  | .and_c => [0xA1]
  | .and_d => [0xA2]
  | .and_e => [0xA3]
  | .and_h => [0xA4]
  | .and_l => [0xA5]
  | .and_at_hl => [0xA6]
  | .and_a => [0xA7]
  | .xor_b => [0xA8]
  | .xor_c => [0xA9]
  | .xor_d => [0xAA]
  | .xor_e => [0xAB]
  | .xor_h => [0xAC]
  | .xor_l => [0xAD]
  | .xor_at_hl => [0xAE]
  | .xor_a => [0xAF]
  | .or_b => [0xB0]
  | .or_c => [0xB1]
  | .or_d => [0xB2]
  | .or_e => [0xB3]
  | .or_h => [0xB4]
  | .or_l => [0xB5]
  | .or_at_hl => [0xB6]
  | .or_a => [0xB7]
  | .cp_b => [0xB8]
  | .cp_c => [0xB9]
  | .cp_d => [0xBA]
  | .cp_e => [0xBB]
  | .cp_h => [0xBC]
  | .cp_l => [0xBD]
  | .cp_at_hl => [0xBE]
  | .cp_a => [0xBF]
  | .ret_nz => [0xC0]
  | .pop_bc => [0xC1]
  | .push_bc => [0xC5]
  | .rst_00 => [0xC7]
  | .ret_z => [0xC8]
  | .ret => [0xC9]
  | .rst_08 => [0xCF]
  | .ret_nc => [0xD0]
  | .pop_de => [0xD1]
  | .undefined_d3 => [0xD3]
  | .push_de => [0xD5]
  | .rst_10 => [0xD7]
  | .ret_c => [0xD8]
  | .reti => [0xD9]
  | .undefined_db => [0xDB]
  | .undefined_dd => [0xDD]
  | .rst_18 => [0xDF]
  | .pop_hl => [0xE1]
  | .ld_at_c_a => [0xE2]
  | .undefined_e3 => [0xE3]
  | .undefined_e4 => [0xE4]
  | .push_hl => [0xE5]
  | .rst_20 => [0xE7]
  | .jp_hl => [0xE9]
  | .undefined_eb => [0xEB]
  | .undefined_ec => [0xEC]
  | .undefined_ed => [0xED]
  | .rst_28 => [0xEF]
  | .pop_af => [0xF1]
  | .ld_a_at_c => [0xF2]
  | .di => [0xF3]
  | .undefined_f4 => [0xF4]
  | .push_af => [0xF5]
  | .rst_30 => [0xF7]
  | .ld_sp_hl => [0xF9]
  | .ei => [0xFB]
  | .undefined_fc => [0xFC]
  | .undefined_fd => [0xFD]
  | .rst_38 => [0xFF]
  | .rlc_b => [0xCB, 0x00]
  | .rlc_c => [0xCB, 0x01]
  | .rlc_d => [0xCB, 0x02]
  | .rlc_e => [0xCB, 0x03]
  | .rlc_h => [0xCB, 0x04]
  | .rlc_l => [0xCB, 0x05]
  | .rlc_at_hl => [0xCB, 0x06]
  | .rlc_a => [0xCB, 0x07]
  | .rrc_b => [0xCB, 0x08]
  | .rrc_c => [0xCB, 0x09]
  | .rrc_d => [0xCB, 0x0A]
  | .rrc_e => [0xCB, 0x0B]
  | .rrc_h => [0xCB, 0x0C]
  | .rrc_l => [0xCB, 0x0D]
  | .rrc_at_hl => [0xCB, 0x0E]
  | .rrc_a => [0xCB, 0x0F]
  | .rl_b => [0xCB, 0x10]
  | .rl_c => [0xCB, 0x11]
  | .rl_d => [0xCB, 0x12]
  | .rl_e => [0xCB, 0x13]
  | .rl_h => [0xCB, 0x14]
  | .rl_l => [0xCB, 0x15]
  | .rl_at_hl => [0xCB, 0x16]
  | .rl_a => [0xCB, 0x17]
  | .rr_b => [0xCB, 0x18]
  | .rr_c => [0xCB, 0x19]
  | .rr_d => [0xCB, 0x1A]
  | .rr_e => [0xCB, 0x1B]
  | .rr_h => [0xCB, 0x1C]
  | .rr_l => [0xCB, 0x1D]
  | .rr_at_hl => [0xCB, 0x1E]
  | .rr_a => [0xCB, 0x1F]
  | .sla_b => [0xCB, 0x20]
  | .sla_c => [0xCB, 0x21]
  | .sla_d => [0xCB, 0x22]
  | .sla_e => [0xCB, 0x23]
  | .sla_h => [0xCB, 0x24]
  | .sla_l => [0xCB, 0x25]
  | .sla_at_hl => [0xCB, 0x26]
  | .sla_a => [0xCB, 0x27]
  | .sra_b => [0xCB, 0x28]
  | .sra_c => [0xCB, 0x29]
  | .sra_d => [0xCB, 0x2A]
  | .sra_e => [0xCB, 0x2B]
  | .sra_h => [0xCB, 0x2C]
  | .sra_l => [0xCB, 0x2D]
  | .sra_at_hl => [0xCB, 0x2E]
  | .sra_a => [0xCB, 0x2F]
  | .swap_b => [0xCB, 0x30]
  | .swap_c => [0xCB, 0x31]
  | .swap_d => [0xCB, 0x32]
  | .swap_e => [0xCB, 0x33]
  | .swap_h => [0xCB, 0x34]
  | .swap_l => [0xCB, 0x35]
  | .swap_at_hl => [0xCB, 0x36]
  | .swap_a => [0xCB, 0x37]
  | .srl_b => [0xCB, 0x38]
  | .srl_c => [0xCB, 0x39]
  | .srl_d => [0xCB, 0x3A]
  | .srl_e => [0xCB, 0x3B]
  | .srl_h => [0xCB, 0x3C]
  | .srl_l => [0xCB, 0x3D]
  | .srl_at_hl => [0xCB, 0x3E]
  | .srl_a => [0xCB, 0x3F]
  | .bit_0_b => [0xCB, 0x40]
  | .bit_0_c => [0xCB, 0x41]
  | .bit_0_d => [0xCB, 0x42]
  | .bit_0_e => [0xCB, 0x43]
  | .bit_0_h => [0xCB, 0x44]
  | .bit_0_l => [0xCB, 0x45]
  | .bit_0_at_hl => [0xCB, 0x46]
  | .bit_0_a => [0xCB, 0x47]
  | .bit_1_b => [0xCB, 0x48]
  | .bit_1_c => [0xCB, 0x49]
  | .bit_1_d => [0xCB, 0x4A]
  | .bit_1_e => [0xCB, 0x4B]
  | .bit_1_h => [0xCB, 0x4C]
  | .bit_1_l => [0xCB, 0x4D]
  | .bit_1_at_hl => [0xCB, 0x4E]
  | .bit_1_a => [0xCB, 0x4F]
  | .bit_2_b => [0xCB, 0x50]
  | .bit_2_c => [0xCB, 0x51]
  | .bit_2_d => [0xCB, 0x52]
  | .bit_2_e => [0xCB, 0x53]
  | .bit_2_h => [0xCB, 0x54]
  | .bit_2_l => [0xCB, 0x55]
  | .bit_2_at_hl => [0xCB, 0x56]
  | .bit_2_a => [0xCB, 0x57]
  | .bit_3_b => [0xCB, 0x58]
  | .bit_3_c => [0xCB, 0x59]
  | .bit_3_d => [0xCB, 0x5A]
  | .bit_3_e => [0xCB, 0x5B]
  | .bit_3_h => [0xCB, 0x5C]
  | .bit_3_l => [0xCB, 0x5D]
  | .bit_3_at_hl => [0xCB, 0x5E]
  | .bit_3_a => [0xCB, 0x5F]
  | .bit_4_b => [0xCB, 0x60]
  | .bit_4_c => [0xCB, 0x61]
  | .bit_4_d => [0xCB, 0x62]
  | .bit_4_e => [0xCB, 0x63]
  | .bit_4_h => [0xCB, 0x64]
  | .bit_4_l => [0xCB, 0x65]
  | .bit_4_at_hl => [0xCB, 0x66]
  | .bit_4_a => [0xCB, 0x67]
  | .bit_5_b => [0xCB, 0x68]
  | .bit_5_c => [0xCB, 0x69]
  | .bit_5_d => [0xCB, 0x6A]
  | .bit_5_e => [0xCB, 0x6B]
  | .bit_5_h => [0xCB, 0x6C]
  | .bit_5_l => [0xCB, 0x6D]
  | .bit_5_at_hl => [0xCB, 0x6E]
  | .bit_5_a => [0xCB, 0x6F]
  | .bit_6_b => [0xCB, 0x70]
  | .bit_6_c => [0xCB, 0x71]
  | .bit_6_d => [0xCB, 0x72]
  | .bit_6_e => [0xCB, 0x73]
  | .bit_6_h => [0xCB, 0x74]
  | .bit_6_l => [0xCB, 0x75]
  | .bit_6_at_hl => [0xCB, 0x76]
  | .bit_6_a => [0xCB, 0x77]
  | .bit_7_b => [0xCB, 0x78]
  | .bit_7_c => [0xCB, 0x79]
  | .bit_7_d => [0xCB, 0x7A]
  | .bit_7_e => [0xCB, 0x7B]
  | .bit_7_h => [0xCB, 0x7C]
  | .bit_7_l => [0xCB, 0x7D]
  | .bit_7_at_hl => [0xCB, 0x7E]
  | .bit_7_a => [0xCB, 0x7F]
  | .res_0_b => [0xCB, 0x80]
  | .res_0_c => [0xCB, 0x81]
  | .res_0_d => [0xCB, 0x82]
  | .res_0_e => [0xCB, 0x83]
  | .res_0_h => [0xCB, 0x84]
  | .res_0_l => [0xCB, 0x85]
  | .res_0_at_hl => [0xCB, 0x86]
  | .res_0_a => [0xCB, 0x87]
  | .res_1_b => [0xCB, 0x88]
  | .res_1_c => [0xCB, 0x89]
  | .res_1_d => [0xCB, 0x8A]
  | .res_1_e => [0xCB, 0x8B]
  | .res_1_h => [0xCB, 0x8C]
  | .res_1_l => [0xCB, 0x8D]
  | .res_1_at_hl => [0xCB, 0x8E]
  | .res_1_a => [0xCB, 0x8F]
  | .res_2_b => [0xCB, 0x90]
  | .res_2_c => [0xCB, 0x91]
  | .res_2_d => [0xCB, 0x92]
  | .res_2_e => [0xCB, 0x93]
  | .res_2_h => [0xCB, 0x94]
  | .res_2_l => [0xCB, 0x95]
  | .res_2_at_hl => [0xCB, 0x96]
  | .res_2_a => [0xCB, 0x97]
  | .res_3_b => [0xCB, 0x98]
  | .res_3_c => [0xCB, 0x99]
  | .res_3_d => [0xCB, 0x9A]
  | .res_3_e => [0xCB, 0x9B]
  | .res_3_h => [0xCB, 0x9C]
  | .res_3_l => [0xCB, 0x9D]
  | .res_3_at_hl => [0xCB, 0x9E]
  | .res_3_a => [0xCB, 0x9F]
  | .res_4_b => [0xCB, 0xA0]
  | .res_4_c => [0xCB, 0xA1]
  | .res_4_d => [0xCB, 0xA2]
  | .res_4_e => [0xCB, 0xA3]
  | .res_4_h => [0xCB, 0xA4]
  | .res_4_l => [0xCB, 0xA5]
  | .res_4_at_hl => [0xCB, 0xA6]
  | .res_4_a => [0xCB, 0xA7]
  | .res_5_b => [0xCB, 0xA8]
  | .res_5_c => [0xCB, 0xA9]
  | .res_5_d => [0xCB, 0xAA]
  | .res_5_e => [0xCB, 0xAB]
  | .res_5_h => [0xCB, 0xAC]
  | .res_5_l => [0xCB, 0xAD]
  | .res_5_at_hl => [0xCB, 0xAE]
  | .res_5_a => [0xCB, 0xAF]
  | .res_6_b => [0xCB, 0xB0]
  | .res_6_c => [0xCB, 0xB1]
  | .res_6_d => [0xCB, 0xB2]
  | .res_6_e => [0xCB, 0xB3]
  | .res_6_h => [0xCB, 0xB4]
  | .res_6_l => [0xCB, 0xB5]
  | .res_6_at_hl => [0xCB, 0xB6]
  | .res_6_a => [0xCB, 0xB7]
  | .res_7_b => [0xCB, 0xB8]
  | .res_7_c => [0xCB, 0xB9]
  | .res_7_d => [0xCB, 0xBA]
  | .res_7_e => [0xCB, 0xBB]
  | .res_7_h => [0xCB, 0xBC]
  | .res_7_l => [0xCB, 0xBD]
  | .res_7_at_hl => [0xCB, 0xBE]
  | .res_7_a => [0xCB, 0xBF]
  | .set_0_b => [0xCB, 0xC0]
  | .set_0_c => [0xCB, 0xC1]
  | .set_0_d => [0xCB, 0xC2]
  | .set_0_e => [0xCB, 0xC3]
  | .set_0_h => [0xCB, 0xC4]
  | .set_0_l => [0xCB, 0xC5]
  | .set_0_at_hl => [0xCB, 0xC6]
  | .set_0_a => [0xCB, 0xC7]
  | .set_1_b => [0xCB, 0xC8]
  | .set_1_c => [0xCB, 0xC9]
  | .set_1_d => [0xCB, 0xCA]
  | .set_1_e => [0xCB, 0xCB]
  | .set_1_h => [0xCB, 0xCC]
  | .set_1_l => [0xCB, 0xCD]
  | .set_1_at_hl => [0xCB, 0xCE]
  | .set_1_a => [0xCB, 0xCF]
  | .set_2_b => [0xCB, 0xD0]
  | .set_2_c => [0xCB, 0xD1]
  | .set_2_d => [0xCB, 0xD2]
  | .set_2_e => [0xCB, 0xD3]
  | .set_2_h => [0xCB, 0xD4]
  | .set_2_l => [0xCB, 0xD5]
  | .set_2_at_hl => [0xCB, 0xD6]
  | .set_2_a => [0xCB, 0xD7]
  | .set_3_b => [0xCB, 0xD8]
  | .set_3_c => [0xCB, 0xD9]
  | .set_3_d => [0xCB, 0xDA]
  | .set_3_e => [0xCB, 0xDB]
  | .set_3_h => [0xCB, 0xDC]
  | .set_3_l => [0xCB, 0xDD]
  | .set_3_at_hl => [0xCB, 0xDE]
  | .set_3_a => [0xCB, 0xDF]
  | .set_4_b => [0xCB, 0xE0]
  | .set_4_c => [0xCB, 0xE1]
  | .set_4_d => [0xCB, 0xE2]
  | .set_4_e => [0xCB, 0xE3]
  | .set_4_h => [0xCB, 0xE4]
  | .set_4_l => [0xCB, 0xE5]
  | .set_4_at_hl => [0xCB, 0xE6]
  | .set_4_a => [0xCB, 0xE7]
  | .set_5_b => [0xCB, 0xE8]
  | .set_5_c => [0xCB, 0xE9]
  | .set_5_d => [0xCB, 0xEA]
  | .set_5_e => [0xCB, 0xEB]
  | .set_5_h => [0xCB, 0xEC]
  | .set_5_l => [0xCB, 0xED]
  | .set_5_at_hl => [0xCB, 0xEE]
  | .set_5_a => [0xCB, 0xEF]
  | .set_6_b => [0xCB, 0xF0]
  | .set_6_c => [0xCB, 0xF1]
  | .set_6_d => [0xCB, 0xF2]
  | .set_6_e => [0xCB, 0xF3]
  | .set_6_h => [0xCB, 0xF4]
  | .set_6_l => [0xCB, 0xF5]
  | .set_6_at_hl => [0xCB, 0xF6]
  | .set_6_a => [0xCB, 0xF7]
  | .set_7_b => [0xCB, 0xF8]
  | .set_7_c => [0xCB, 0xF9]
  | .set_7_d => [0xCB, 0xFA]
  | .set_7_e => [0xCB, 0xFB]
  | .set_7_h => [0xCB, 0xFC]
  | .set_7_l => [0xCB, 0xFD]
  | .set_7_at_hl => [0xCB, 0xFE]
  | .set_7_a => [0xCB, 0xFF]

end Sys2Proof
end

