-- ==== Sys2Proof/Machine/Interrupts.lean ====
section
/-! DEFINITION. The interrupt sources and the IF/IE pair (60_exceptions R420-R423). -/

namespace Sys2Proof.Machine

/-- The five sources in priority order, bit 0 first (60_exceptions R420). -/
inductive IrqSource where
  | vblank | lcdStat | timer | serial | joypad
  deriving DecidableEq, Repr

/-- The source's bit of `IF` and `IE` as a mask (60_exceptions R420). -/
def IrqSource.mask : IrqSource → BitVec 5
  | .vblank => 0b00001
  | .lcdStat => 0b00010
  | .timer => 0b00100
  | .serial => 0b01000
  | .joypad => 0b10000

/-- "V-blank=0x40, LCD=0x48, timer=0x50, serial=0x58, joypad=0x60" (60_exceptions R420). -/
def IrqSource.vector : IrqSource → Word
  | .vblank => 0x0040
  | .lcdStat => 0x0048
  | .timer => 0x0050
  | .serial => 0x0058
  | .joypad => 0x0060

/-- `request(k)`: `IF[k] <- 1` (60_exceptions R421). -/
def request (k : IrqSource) (s : State) : State :=
  { s with irq := { s.irq with flag := s.irq.flag ||| k.mask } }

/-- `request(k)` made only when `b` holds. -/
def requestIf (b : Bool) (k : IrqSource) (s : State) : State :=
  if b then request k s else s

/-- `IF[k] <- 0` (60_exceptions R430). -/
def acknowledge (k : IrqSource) (s : State) : State :=
  { s with irq := { s.irq with flag := s.irq.flag &&& ~~~k.mask } }

/-- `IF & IE & 0x1F` (60_exceptions R422). -/
def pendingSet (s : State) : BitVec 5 := s.irq.flag &&& s.irq.enable

/-- "An interrupt is *pending* when `IF & IE & 0x1F` is non-zero" (60_exceptions R422). -/
def interruptPending (s : State) : Bool := pendingSet s != 0

/-- The highest-priority source of a pending set: its lowest set bit (60_exceptions R430, R431). -/
def firstSource (p : BitVec 5) : Option IrqSource :=
  if p.getLsbD 0 then some .vblank
  else if p.getLsbD 1 then some .lcdStat
  else if p.getLsbD 2 then some .timer
  else if p.getLsbD 3 then some .serial
  else if p.getLsbD 4 then some .joypad
  else none

/-- The byte a bus read of `IF` or `IE` returns: bits 4..0 and bits 7..5 per `IFIE_UPPER_READ` (10_state R40). -/
def fiveBitRead (cfg : Params) (v : BitVec 5) : Byte :=
  match cfg.ifIeUpperRead with
  | .ones => (0b111 : BitVec 3) ++ v
  | .zeros => (0b000 : BitVec 3) ++ v

/-- `v & 0x1F`, what a bus write of `v` to `IF` or `IE` stores (60_exceptions R423). -/
def fiveBitWrite (v : Byte) : BitVec 5 := v.extractLsb' 0 5

end Sys2Proof.Machine
end

