-- ==== Sys2Proof/Machine/Joypad.lean ====
section
/-! DEFINITION. The joypad matrix, `P1`, and the host's `set_button` (62_serial_joypad R510-R514). -/

namespace Sys2Proof.Machine

/-- One key's state. -/
def Buttons.get (k : Buttons) : Button → Bool
  | .a => k.a
  | .b => k.b
  | .select => k.select
  | .start => k.start
  | .right => k.right
  | .left => k.left
  | .up => k.up
  | .down => k.down

/-- `buttons[b] <- p` (62_serial_joypad R511). -/
def Buttons.set (k : Buttons) (key : Button) (p : Bool) : Buttons :=
  match key with
  | .a => { k with a := p }
  | .b => { k with b := p }
  | .select => { k with select := p }
  | .start => { k with start := p }
  | .right => { k with right := p }
  | .left => { k with left := p }
  | .up => { k with up := p }
  | .down => { k with down := p }

/-- Four key lines, bit 3 first, active low: "Pressed keys read as 0" (62_serial_joypad R510). -/
def keyLines (k3 k2 k1 k0 : Bool) : BitVec 4 :=
  ~~~(BitVec.ofBool k3 ++ BitVec.ofBool k2 ++ BitVec.ofBool k1 ++ BitVec.ofBool k0)

/-- `Lines()`, the lower nibble of a `P1` read; all ones when both rows are selected or neither
(62_serial_joypad R510). `select` is `P1[5:4]`. -/
def Joypad.lines (j : Joypad) : BitVec 4 :=
  let k := j.buttons
  if !j.select.getLsbD 1 && j.select.getLsbD 0 then keyLines k.start k.select k.b k.a
  else if !j.select.getLsbD 0 && j.select.getLsbD 1 then keyLines k.down k.up k.left k.right
  else 0b1111

/-- `P1` reads `0xC0 | sel5<<5 | sel4<<4 | lines` (10_state R33). -/
def Joypad.read (j : Joypad) : Byte := (0b11 : BitVec 2) ++ j.select ++ j.lines

/-- `JoypadEdge(old, new)`: a visible bit going from 1 to 0 raises the joypad interrupt (62_serial_joypad R513). -/
def joypadEdge (old new : BitVec 4) (s : State) : State :=
  requestIf (old &&& ~~~new != 0) .joypad s

/-- A write to `P1`: store bits 5..4, then the edge (62_serial_joypad R514, 10_state R33). -/
def writeP1 (v : Byte) (s : State) : State :=
  let j := { s.joypad with select := v.extractLsb' 4 2 }
  joypadEdge s.joypad.lines j.lines { s with joypad := j }

/-- `set_button(b, p)`: store, the edge, and a press out of mode stopped (62_serial_joypad R511, R512). -/
def setButton (ev : ButtonEvent) (s : State) : State :=
  let j := { s.joypad with buttons := s.joypad.buttons.set ev.button ev.pressed }
  let t := joypadEdge s.joypad.lines j.lines { s with joypad := j }
  if ev.pressed && !s.joypad.buttons.get ev.button && s.cpu.mode == .stopped then
    { t with cpu := { t.cpu with mode := .running } }
  else t

/-- The host's calls before this system step, in order (64_scheduler R604; log entry 14). -/
def hostPhase (s : State) : State :=
  match s.inputs with
  | [] => s
  | evs :: rest => evs.foldl (fun t ev => setButton ev t) { s with inputs := rest }

end Sys2Proof.Machine
end

