-- ==== Sys2Proof/Machine/Ppu.lean ====
section
/-! DEFINITION. The PPU: scanline machine, compositor and palettes (63_ppu R530-R560). -/

namespace Sys2Proof.Machine

/-! ### Registers -/

/-- The mode as `STAT[1:0]` (00_scope R18). -/
def PpuMode.code : PpuMode → BitVec 2
  | .hblank => 0
  | .vblank => 1
  | .oamScan => 2
  | .drawing => 3

/-- `STAT` reads `0x80 | enables<<3 | coincidence<<2 | mode` (10_state R42). -/
def Ppu.readStat (p : Ppu) : Byte := (1 : BitVec 1) ++ p.statEnables ++ bitOf p.coincidence ++ p.mode.code

/-- A write to `STAT` stores bits 6..3 only (10_state R42). -/
def Ppu.writeStat (v : Byte) (p : Ppu) : Ppu := { p with statEnables := v.extractLsb' 3 4 }

/-- A write to `LCDC`: store; on a change of bit 7 the LCD goes off or restarts, with no interrupt (63_ppu R545). -/
def Ppu.writeLcdc (v : Byte) (p : Ppu) : Ppu :=
  let q := { p with lcdc := v }
  match p.lcdc.getLsbD 7, v.getLsbD 7 with
  | true, false => { q with ly := 0, dot := 0, mode := .hblank, coincidence := decide (q.lyc = 0) }
  | false, true =>
    { q with ly := 0, dot := 0, mode := .oamScan, coincidence := decide (q.lyc = 0), windowLine := 0 }
  | _, _ => q

/-! ### Framebuffer (10_state R30, 63_ppu R560) -/

def lineWidth : Nat := 160

/-- One line of the framebuffer; a line never written is all shade 0 (log entry 3). -/
def Framebuffer.row : Framebuffer → Nat → List Shade
  | [], _ => List.replicate lineWidth 0
  | r :: m, y => if r.1 = y then r.2 else Framebuffer.row m y

def Framebuffer.pixel (f : Framebuffer) (y x : Nat) : Shade := (f.row y).getD x 0

def Framebuffer.erase : Framebuffer → Nat → Framebuffer
  | [], _ => []
  | r :: m, y => if r.1 = y then Framebuffer.erase m y else r :: Framebuffer.erase m y

def Framebuffer.insert : Framebuffer → Nat → List Shade → Framebuffer
  | [], y, v => [(y, v)]
  | r :: m, y, v => if y < r.1 then (y, v) :: r :: m else r :: Framebuffer.insert m y v

/-- Overwrite one line, keeping the canonical form. -/
def Framebuffer.setRow (f : Framebuffer) (y : Nat) (v : List Shade) : Framebuffer :=
  if v = List.replicate lineWidth 0 then f.erase y else (f.erase y).insert y v

/-- The canonical form: lines rising below 144, each of 160 shades, none all shade 0. -/
abbrev Framebuffer.wf (f : Framebuffer) : Prop :=
  List.Pairwise (fun r t => r.1 < t.1) f ∧
    ∀ r ∈ f, r.1 < 144 ∧ r.2.length = lineWidth ∧ r.2 ≠ List.replicate lineWidth 0

/-! ### Tiles and layers -/

/-- `Pal(P, i) = (P >> 2i) & 3` (63_ppu R559). -/
def palette (p : Byte) (i : Shade) : Shade := p.extractLsb' (2 * i.toNat) 2

/-- `TilePixel(addr, r, c)` (63_ppu R556). -/
def tilePixel (s : State) (addr r c : Nat) : Shade :=
  let low := s.mem.get (addr + 2 * r)
  let high := s.mem.get (addr + 2 * r + 1)
  bitOf (high.getLsbD (7 - c)) ++ bitOf (low.getLsbD (7 - c))

/-- `TileAddr(e)`: the $8000 method with `LCDC[4]` = 1, the $8800 method, a signed entry, with 0 (63_ppu R555). -/
def tileAddr (lcdc : Byte) (e : Byte) : Nat :=
  if lcdc.getLsbD 4 then 0x8000 + 16 * e.toNat
  else if e.getLsbD 7 then 0x9000 + 16 * e.toNat - 16 * 256
  else 0x9000 + 16 * e.toNat

/-- The base of a tile map: 0x9C00 when its select bit is 1, else 0x9800 (10_state R41). -/
def mapBase (b : Bool) : Nat := if b then 0x9C00 else 0x9800

/-- The pixel of a 256 x 256 map at (mx, my) (63_ppu R551, R553). -/
def mapPixel (s : State) (base mx my : Nat) : Shade :=
  tilePixel s (tileAddr s.ppu.lcdc (s.mem.get (base + 32 * (my / 8) + mx / 8))) (my % 8) (mx % 8)

/-- `BgPixel(x, y)` (63_ppu R551). -/
def bgPixel (s : State) (x y : Nat) : Shade :=
  mapPixel s (mapBase (s.ppu.lcdc.getLsbD 3)) ((x + s.ppu.scx.toNat) % 256) ((y + s.ppu.scy.toNat) % 256)

/-- Whether the window covers (x, y) (63_ppu R550, R553). -/
def windowCovers (s : State) (x y : Nat) : Bool :=
  s.ppu.lcdc.getLsbD 5 && decide (s.ppu.wy.toNat ≤ y) && decide (s.ppu.wx.toNat ≤ x + 7)

/-- The window's line, the counter or `LY - WY` per `WINDOW_LINE_MODE` (63_ppu R554). -/
def windowY (s : State) (y : Nat) : Nat :=
  match s.cfg.windowLineMode with
  | .counter => s.ppu.windowLine.toNat
  | .lyMinusWy => y - s.ppu.wy.toNat

/-- `WinPixel(x, y)` (63_ppu R553). -/
def winPixel (s : State) (x y : Nat) : Shade :=
  mapPixel s (mapBase (s.ppu.lcdc.getLsbD 6)) (x + 7 - s.ppu.wx.toNat) (windowY s y)

/-- The raw background or window color index at (x, y), 0 when `LCDC[0]` = 0 (63_ppu R550). -/
def layerIndex (s : State) (x y : Nat) : Shade :=
  if s.ppu.lcdc.getLsbD 0 then (if windowCovers s x y then winPixel s x y else bgPixel s x y) else 0

/-- Its shade: through `BGP`, or 0 when `LCDC[0]` = 0 (63_ppu R550). -/
def layerShade (s : State) (c : Shade) : Shade :=
  if s.ppu.lcdc.getLsbD 0 then palette s.ppu.bgp c else 0

/-! ### Sprites -/

/-- One byte of the OAM descriptor `i`: 0 Y, 1 X, 2 tile, 3 attributes (10_state R31). -/
def oamByte (s : State) (i k : Nat) : Byte := s.mem.get (0xFE00 + 4 * i + k)

/-- The sprite height, `LCDC[2]` (10_state R41, 63_ppu R552). -/
def spriteHeight (s : State) : Nat := if s.ppu.lcdc.getLsbD 2 then 16 else 8

/-- `sy <= y < sy + h` with `sy = OAM Y - 16`, both sides moved up by 16 (63_ppu R552). -/
def spriteOnLine (s : State) (y i : Nat) : Bool :=
  decide ((oamByte s i 0).toNat ≤ y + 16) && decide (y + 16 < (oamByte s i 0).toNat + spriteHeight s)

/-- `SelectSprites(y)`: the first 10 sprites in OAM order whose rows contain the line (63_ppu R552); none when
`LCDC[1]` = 0 (R550). -/
def selectSprites (s : State) (y : Nat) : List Nat :=
  if s.ppu.lcdc.getLsbD 1 then ((List.range 40).filter (spriteOnLine s y)).take 10 else []

/-- `sx <= x < sx + 8` with `sx = OAM X - 8`, both sides moved up by 8 (63_ppu R557). -/
def spriteCovers (s : State) (x i : Nat) : Bool :=
  decide ((oamByte s i 1).toNat ≤ x + 8) && decide (x + 8 < (oamByte s i 1).toNat + 8)

/-- `SpritePixel(i, x, y)` of a sprite that covers `x` (63_ppu R557). -/
def spritePixel (s : State) (x y i : Nat) : Shade :=
  let attr := oamByte s i 3
  let h := spriteHeight s
  let row := y + 16 - (oamByte s i 0).toNat
  let row := if attr.getLsbD 6 then h - 1 - row else row
  let col := x + 8 - (oamByte s i 1).toNat
  let col := if attr.getLsbD 5 then 7 - col else col
  let tile := (oamByte s i 2).toNat
  let tile := if h = 16 then tile - tile % 2 else tile
  tilePixel s (0x8000 + 16 * tile + 16 * (row / 8)) (row % 8) col

/-- The first of a list of sprites in the order (OAM X, index), the list being in index order (63_ppu R558). -/
def leftmostSprite (s : State) : List Nat → Option Nat
  | [] => none
  | i :: rest =>
    match leftmostSprite s rest with
    | none => some i
    | some j => if (oamByte s j 1).toNat < (oamByte s i 1).toNat then some j else some i

/-- The sprite looked at for column `x`: the first covering one, or with `OBJ_FALLTHROUGH` the first whose pixel is
not transparent (63_ppu R558). -/
def spriteCandidate (s : State) (objs : List Nat) (x y : Nat) : Option Nat :=
  let cover := objs.filter (spriteCovers s x)
  leftmostSprite s (if s.cfg.objFallthrough then cover.filter (fun i => spritePixel s x y i != 0) else cover)

/-- `SpriteOver(objs, x, y, c, shade)` (63_ppu R558). -/
def spriteOver (s : State) (objs : List Nat) (x y : Nat) (c shade : Shade) : Shade :=
  match spriteCandidate s objs x y with
  | none => shade
  | some i =>
    let p := spritePixel s x y i
    let attr := oamByte s i 3
    if p = 0 then shade
    else if !attr.getLsbD 7 || c == 0 then palette (if attr.getLsbD 4 then s.ppu.obp1 else s.ppu.obp0) p
    else shade

/-! ### Composition -/

/-- One pixel of `ComposeLine(y)` (63_ppu R550). -/
def composePixel (s : State) (objs : List Nat) (y x : Nat) : Shade :=
  let c := layerIndex s x y
  spriteOver s objs x y c (layerShade s c)

/-- Whether a window pixel is drawn on the line (63_ppu R550, `win`). -/
def windowDrawn (s : State) (y : Nat) : Bool :=
  s.ppu.lcdc.getLsbD 0 && (List.range lineWidth).any (fun x => windowCovers s x y)

/-- `ComposeLine(y)`: 160 shades into row `y`, and the window-line counter (63_ppu R550, R554). -/
def composeLine (y : Nat) (s : State) : State :=
  let objs := selectSprites s y
  let row := (List.range lineWidth).map (composePixel s objs y)
  let counts := windowDrawn s y && s.cfg.windowLineMode == .counter
  { s with
    ppu :=
      { s.ppu with
        fb := s.ppu.fb.setRow y row
        windowLine := if counts then s.ppu.windowLine + 1 else s.ppu.windowLine } }

/-! ### The scanline machine -/

/-- Whether the STAT enable of a mode is set; mode 3 has none (63_ppu R535, 10_state R42). -/
def Ppu.modeEnabled (p : Ppu) : PpuMode → Bool
  | .hblank => p.statEnables.getLsbD 0
  | .vblank => p.statEnables.getLsbD 1
  | .oamScan => p.statEnables.getLsbD 2
  | .drawing => false

/-- `SetMode(m)` (63_ppu R535). -/
def setMode (m : PpuMode) (s : State) : State :=
  requestIf (s.ppu.modeEnabled m) .lcdStat { s with ppu := { s.ppu with mode := m } }

/-- `LyChanged()` (63_ppu R538). -/
def lyChanged (s : State) : State :=
  let eq := decide (s.ppu.ly = s.ppu.lyc)
  requestIf (eq && s.ppu.statEnables.getLsbD 3) .lcdStat { s with ppu := { s.ppu with coincidence := eq } }

/-- The end of a line: the next `LY`, its coincidence, and the mode it starts in (63_ppu R532, R534). -/
def nextLine (s : State) : State :=
  let wraps := s.ppu.ly + 1 = 154
  let s :=
    lyChanged
      { s with
        ppu :=
          { s.ppu with
            dot := 0
            ly := if wraps then 0 else s.ppu.ly + 1
            windowLine := if wraps then 0 else s.ppu.windowLine } }
  if s.ppu.ly = 144 then request .vblank (setMode .vblank s)
  else if s.ppu.ly < 144 then setMode .oamScan s
  else s

/-- `PpuTick()`, one T-cycle (63_ppu R532). -/
def ppuTick (s : State) : State :=
  if !s.ppu.lcdc.getLsbD 7 then s
  else
    let dot := s.ppu.dot + 1
    if dot = 456 then nextLine s
    else
      let s := { s with ppu := { s.ppu with dot := dot } }
      if s.ppu.ly < 144 ∧ dot = 80 then composeLine s.ppu.ly.toNat (setMode .drawing s)
      else if s.ppu.ly < 144 ∧ dot = 252 then setMode .hblank s
      else s

end Sys2Proof.Machine
end

