-- ==== Sys2Proof/Machine/Serial.lean ====
section
/-! DEFINITION. The serial link (62_serial_joypad R500-R503). -/

namespace Sys2Proof.Machine

/-- The byte the link answers: `transfer(out)` of an attached device, "When no device is attached, store 0x00 into SB"
(62_serial_joypad R501). -/
def serialReply (s : State) : Byte :=
  match s.cfg.serialDevice with
  | .absent => 0x00
  | .attached => Config.serialTransfer s.serial.sent s.serial.sb

/-- A write of `v` to `SC`: store bits 7 and 0; with both set, the whole exchange at once; with the external clock,
nothing more (10_state R35, 62_serial_joypad R501, R502). -/
def writeSc (v : Byte) (s : State) : State :=
  if v.getLsbD 7 && v.getLsbD 0 then
    request .serial
      { s with
        serial :=
          { sb := serialReply s, transfer := false, internalClock := true, sent := s.serial.sb :: s.serial.sent } }
  else
    { s with serial := { s.serial with transfer := v.getLsbD 7, internalClock := v.getLsbD 0 } }

/-- `SC` reads `bit7<<7 | 0x7E | bit0` (10_state R35). -/
def Serial.readSc (c : Serial) : Byte := bitOf c.transfer ++ (0b111111 : BitVec 6) ++ bitOf c.internalClock

end Sys2Proof.Machine
end

