-- ==== Sys2Proof/Machine/Timer.lean ====
section
/-! DEFINITION. The timer and divider (61_timer R470-R478). -/

namespace Sys2Proof.Machine

/-- `Sel(tac)`: "bit 9 for 00, 3 for 01, 5 for 10, 7 for 11" (61_timer R471). -/
def timerBit (tac : BitVec 3) : Nat :=
  if tac.getLsbD 1 then (if tac.getLsbD 0 then 7 else 5) else (if tac.getLsbD 0 then 3 else 9)

/-- `Signal(tac, cnt) = tac[2] AND cnt[Sel(tac)]` (61_timer R471). -/
def timerSignal (tac : BitVec 3) (cnt : Word) : Bool := tac.getLsbD 2 && cnt.getLsbD (timerBit tac)

/-- The falling-edge increment of `TIMA`, with the overflow mark on its wrap to 0x00 (61_timer R472 step 3, R477). -/
def Timer.increment (t : Timer) : Timer :=
  { t with tima := t.tima + 1, overflowPending := t.overflowPending || t.tima + 1 == 0 }

/-- Steps 2 to 4 of `TimerMCycle`: advance the divider, sample, count a falling edge (61_timer R472). -/
def Timer.advance (t : Timer) : Timer :=
  let t := { t with divCounter := t.divCounter + 4 }
  let sample := timerSignal t.tac t.divCounter
  let t := if t.prevSample && !sample then t.increment else t
  { t with prevSample := sample }

/-- `TimerMCycle()`: the delayed reload, then steps 2 to 4 (61_timer R472, R473). -/
def timerMCycle (s : State) : State :=
  if s.timer.overflowPending then
    request .timer { s with timer := { s.timer with tima := s.timer.tma, overflowPending := false }.advance }
  else
    { s with timer := s.timer.advance }

/-- A write to `DIV`: `div_counter <- 0`, the sample unchanged (61_timer R476). -/
def Timer.writeDiv (t : Timer) : Timer := { t with divCounter := 0 }

/-- A write to `TIMA`: store, and cancel a pending reload (61_timer R475). -/
def Timer.writeTima (v : Byte) (t : Timer) : Timer := { t with tima := v, overflowPending := false }

/-- A write to `TMA` (61_timer R478). -/
def Timer.writeTma (v : Byte) (t : Timer) : Timer := { t with tma := v }

/-- A write to `TAC`, with its falling edge (61_timer R477). -/
def Timer.writeTac (v : Byte) (t : Timer) : Timer :=
  let before := timerSignal t.tac t.divCounter
  let t := { t with tac := v.extractLsb' 0 3 }
  let after := timerSignal t.tac t.divCounter
  let t := if before && !after then t.increment else t
  { t with prevSample := after }

/-- `DIV` reads `div_counter[15:8]` (10_state R36). -/
def Timer.readDiv (t : Timer) : Byte := hiByte t.divCounter

/-- `TAC` reads `0xF8 | tac[2:0]` (10_state R39). -/
def Timer.readTac (t : Timer) : Byte := (0b11111 : BitVec 5) ++ t.tac

end Sys2Proof.Machine
end

