-- ==== Sys2Proof/Machine/Io.lean ====
section
/-! DEFINITION. The I/O register file at 0xFF00-0xFF7F (10_state R32-R51, 20_memory R91). -/

namespace Sys2Proof.Machine

/-- The registers of the map (10_state R32). -/
inductive IoReg where
  | p1 | sb | sc | div | tima | tma | tac | ifReg | audio
  | lcdc | stat | scy | scx | ly | lyc | dma | bgp | obp0 | obp1 | wy | wx | boot | unmapped
  deriving DecidableEq, Repr

/-- Which register stands at an address of 0xFF00-0xFF7F; "Addresses not listed ... are unmapped" (10_state R32). -/
def ioRegOf (a : Word) : IoReg :=
  if a = 0xFF00 then .p1
  else if a = 0xFF01 then .sb
  else if a = 0xFF02 then .sc
  else if a = 0xFF04 then .div
  else if a = 0xFF05 then .tima
  else if a = 0xFF06 then .tma
  else if a = 0xFF07 then .tac
  else if a = 0xFF0F then .ifReg
  else if 0xFF10 ≤ a.toNat ∧ a.toNat ≤ 0xFF3F then .audio
  else if a = 0xFF40 then .lcdc
  else if a = 0xFF41 then .stat
  else if a = 0xFF42 then .scy
  else if a = 0xFF43 then .scx
  else if a = 0xFF44 then .ly
  else if a = 0xFF45 then .lyc
  else if a = 0xFF46 then .dma
  else if a = 0xFF47 then .bgp
  else if a = 0xFF48 then .obp0
  else if a = 0xFF49 then .obp1
  else if a = 0xFF4A then .wy
  else if a = 0xFF4B then .wx
  else if a = 0xFF50 then .boot
  else .unmapped

/-- A read of an audio register: a free value, one per read (10_state R51; log entry 8). -/
def audioRead (s : State) (a : Word) : Byte := Config.audioRead s.cycles s.cpu.haltBug s.cpu.pc a

/-- The byte a bus read of a register returns (10_state R33-R51). -/
def ioReadReg (s : State) (a : Word) : IoReg → Byte
  | .p1 => s.joypad.read
  | .sb => s.serial.sb
  | .sc => s.serial.readSc
  | .div => s.timer.readDiv
  | .tima => s.timer.tima
  | .tma => s.timer.tma
  | .tac => s.timer.readTac
  | .ifReg => fiveBitRead s.cfg s.irq.flag
  | .audio => audioRead s a
  | .lcdc => s.ppu.lcdc
  | .stat => s.ppu.readStat
  | .scy => s.ppu.scy
  | .scx => s.ppu.scx
  | .ly => s.ppu.ly
  | .lyc => s.ppu.lyc
  | .dma => s.dma.page
  | .bgp => s.ppu.bgp
  | .obp0 => s.ppu.obp0
  | .obp1 => s.ppu.obp1
  | .wy => s.ppu.wy
  | .wx => s.ppu.wx
  | .boot => 0xFF
  | .unmapped => 0xFF

/-- `IoRead(a)` (20_memory R91). -/
def ioRead (s : State) (a : Word) : Byte := ioReadReg s a (ioRegOf a)

/-- The effect of a bus write on a register other than `DMA`, whose write also starts a transfer (`Bus.lean`)
(10_state R33-R51). -/
def ioWriteReg (v : Byte) (s : State) : IoReg → State
  | .p1 => writeP1 v s
  | .sb => { s with serial := { s.serial with sb := v } }
  | .sc => writeSc v s
  | .div => { s with timer := s.timer.writeDiv }
  | .tima => { s with timer := s.timer.writeTima v }
  | .tma => { s with timer := s.timer.writeTma v }
  | .tac => { s with timer := s.timer.writeTac v }
  | .ifReg => { s with irq := { s.irq with flag := fiveBitWrite v } }
  | .audio => s
  | .lcdc => { s with ppu := s.ppu.writeLcdc v }
  | .stat => { s with ppu := s.ppu.writeStat v }
  | .scy => { s with ppu := { s.ppu with scy := v } }
  | .scx => { s with ppu := { s.ppu with scx := v } }
  | .ly => s
  | .lyc => { s with ppu := { s.ppu with lyc := v } }
  | .dma => { s with dma := { s.dma with page := v } }
  | .bgp => { s with ppu := { s.ppu with bgp := v } }
  | .obp0 => { s with ppu := { s.ppu with obp0 := v } }
  | .obp1 => { s with ppu := { s.ppu with obp1 := v } }
  | .wy => { s with ppu := { s.ppu with wy := v } }
  | .wx => { s with ppu := { s.ppu with wx := v } }
  | .boot => if v = 0 then s else { s with bootDisabled := true }
  | .unmapped => s

end Sys2Proof.Machine
end

