-- ==== Sys2Proof/Machine/Bus.lean ====
section
/-! DEFINITION. The address decoder, the CPU bus and the OAM DMA engine (20_memory R80-R105). -/

namespace Sys2Proof.Machine

/-- The devices of the address decoder (20_memory R81). `bootPage` is 0x0000-0x00FF. -/
inductive Region where
  | bootPage | cartRom | vram | cartRam | wram | echo | oam | unusable | io | hram | ie
  deriving DecidableEq, Repr

/-- The decoder's ranges (20_memory R81, R82). -/
def regionOf (a : Word) : Region :=
  let n := a.toNat
  if n ≤ 0x00FF then .bootPage
  else if n ≤ 0x7FFF then .cartRom
  else if n ≤ 0x9FFF then .vram
  else if n ≤ 0xBFFF then .cartRam
  else if n ≤ 0xDFFF then .wram
  else if n ≤ 0xFDFF then .echo
  else if n ≤ 0xFE9F then .oam
  else if n ≤ 0xFEFF then .unusable
  else if n ≤ 0xFF7F then .io
  else if n ≤ 0xFFFE then .hram
  else .ie

/-- The cell of `State.mem` behind an address: echo aliases WRAM, `a - 0x2000` (20_memory R88). -/
def cellOf (a : Word) : Nat :=
  match regionOf a with
  | .echo => a.toNat - 0x2000
  | _ => a.toNat

/-- Store into the cell behind an address, whatever device it belongs to. -/
def pokeCell (k : Nat) (v : Byte) (s : State) : State := { s with mem := s.mem.set k v }

/-- `Cartridge.read(a)`: the contents until the cartridge is written to, then a free value of the cartridge's state
and the address (20_memory R86; log entry 6). -/
def cartRead (s : State) (a : Word) : Byte :=
  match s.cartWrites with
  | [] => s.mem.get a.toNat
  | w :: ws => Config.cartridgeRead (s.mem.filter (fun c => c.1 < 0x8000 || 0xA000 ≤ c.1 && c.1 < 0xC000)) (w :: ws) a

/-- `Cartridge.write(a, v)`: "only `Cartridge.write` changes the cartridge state" (20_memory R86; log entry 6). -/
def cartWrite (a : Word) (v : Byte) (s : State) : State := { s with cartWrites := (a, v) :: s.cartWrites }

/-- `BusReadUngated(a)` (20_memory R82). -/
def busReadUngated (s : State) (a : Word) : Byte :=
  match regionOf a with
  | .bootPage => if s.bootDisabled then cartRead s a else Memory.get s.cfg.bootRom a.toNat
  | .cartRom => cartRead s a
  | .cartRam => cartRead s a
  | .vram => s.mem.get (cellOf a)
  | .wram => s.mem.get (cellOf a)
  | .echo => s.mem.get (cellOf a)
  | .oam => s.mem.get (cellOf a)
  | .hram => s.mem.get (cellOf a)
  | .unusable => 0xFF
  | .io => ioRead s a
  | .ie => fiveBitRead s.cfg s.irq.enable

/-- Whether a timed transfer makes a CPU read of an address give 0xFF: all but HRAM (20_memory R105). -/
def dmaGated (s : State) (a : Word) : Bool :=
  s.cfg.dmaMode == .timed && s.dma.active && regionOf a != .hram

/-- `MemRead(a, 1)` (20_memory R82). -/
def memRead (s : State) (a : Word) : Byte := if dmaGated s a then 0xFF else busReadUngated s a

/-! ### DMA -/

/-- One byte of a transfer: `OAM[i] <- DmaRead(base + i)` (20_memory R101-R104). -/
def dmaCopy (base : Word) (s : State) (i : Nat) : State :=
  pokeCell (0xFE00 + i) (busReadUngated s (base + BitVec.ofNat 16 i)) s

/-- A write of `v` to `DMA`: store it, and start the transfer: all 160 bytes at once, or the timed engine, which starts
over if it was running (10_state R46, 20_memory R100-R102). -/
def writeDma (v : Byte) (s : State) : State :=
  let s := ioWriteReg v s .dma
  let base := word v 0
  match s.cfg.dmaMode with
  | .instant => (List.range 160).foldl (dmaCopy base) s
  | .timed => { s with dma := { s.dma with active := true, source := base, index := 0 } }

/-- The timed engine's work in one device M-cycle (20_memory R102). -/
def dmaMCycle (s : State) : State :=
  if s.cfg.dmaMode == .timed && s.dma.active then
    let s := dmaCopy s.dma.source s s.dma.index
    { s with dma := { s.dma with index := s.dma.index + 1, active := s.dma.index + 1 != 160 } }
  else s

/-! ### The bus write -/

/-- `OamBlocked()` (20_memory R89). -/
def oamBlocked (s : State) : Bool :=
  s.cfg.oamWriteBlock && s.ppu.lcdc.getLsbD 7 && (s.ppu.mode == .oamScan || s.ppu.mode == .drawing)

/-- `IoWrite(a, v)` (20_memory R91). -/
def ioWrite (a : Word) (v : Byte) (s : State) : State :=
  match ioRegOf a with
  | .dma => writeDma v s
  | r => ioWriteReg v s r

/-- The bus write without the timed-DMA gate (20_memory R83). -/
def busWrite (a : Word) (v : Byte) (s : State) : State :=
  match regionOf a with
  | .bootPage => cartWrite a v s
  | .cartRom => cartWrite a v s
  | .cartRam => cartWrite a v s
  | .vram => pokeCell (cellOf a) v s
  | .wram => pokeCell (cellOf a) v s
  | .echo => pokeCell (cellOf a) v s
  | .oam => if oamBlocked s then s else pokeCell (cellOf a) v s
  | .unusable => s
  | .io => ioWrite a v s
  | .hram => pokeCell (cellOf a) v s
  | .ie => { s with irq := { s.irq with enable := fiveBitWrite v } }

/-- Whether a timed transfer discards a CPU write to an address: all but HRAM (20_memory R105) and the `DMA` register
itself, since "a write during an active transfer restarts it" (R102, 92_eei_decisions D6; DEDUCED, log entry 16). -/
def dmaDiscards (s : State) (a : Word) : Bool := dmaGated s a && a != 0xFF46

/-- `MemWrite(a, 1, v)` (20_memory R83). -/
def memWrite (a : Word) (v : Byte) (s : State) : State := if dmaDiscards s a then s else busWrite a v s

end Sys2Proof.Machine
end

