-- ==== Sys2Proof/Machine/Operands.lean ====
section
/-! DEFINITION. Register access, operand forms, addressing modes and conditions (10_state R20-R22, 30_encoding
R132-R136, 40_loads R169, 43 R304, 44_control R350). -/

namespace Sys2Proof.Machine

/-! ### The register file -/

def Cpu.reg8 (k : Cpu) : Reg8 → Byte
  | .b => k.b
  | .c => k.c
  | .d => k.d
  | .e => k.e
  | .h => k.h
  | .l => k.l
  | .a => k.a

def Cpu.setReg8 (r : Reg8) (v : Byte) (k : Cpu) : Cpu :=
  match r with
  | .b => { k with b := v }
  | .c => { k with c := v }
  | .d => { k with d := v }
  | .e => { k with e := v }
  | .h => { k with h := v }
  | .l => { k with l := v }
  | .a => { k with a := v }

/-- `F` as a byte: `Z<<7 | N<<6 | H<<5 | C<<4`, bits 3..0 reading 0 (10_state R22). -/
def Flags.toByte (f : Flags) : Byte := bitOf f.z ++ bitOf f.n ++ bitOf f.h ++ bitOf f.c ++ (0 : BitVec 4)

/-- `r[F] <- v` stores `v & 0xF0` (10_state R22). -/
def Flags.ofByte (v : Byte) : Flags := ⟨v.getLsbD 7, v.getLsbD 6, v.getLsbD 5, v.getLsbD 4⟩

def Cpu.af (k : Cpu) : Word := word k.a k.f.toByte
def Cpu.bc (k : Cpu) : Word := word k.b k.c
def Cpu.de (k : Cpu) : Word := word k.d k.e
def Cpu.hl (k : Cpu) : Word := word k.h k.l

def Cpu.setAf (v : Word) (k : Cpu) : Cpu := { k with a := hiByte v, f := Flags.ofByte (loByte v) }
def Cpu.setBc (v : Word) (k : Cpu) : Cpu := { k with b := hiByte v, c := loByte v }
def Cpu.setDe (v : Word) (k : Cpu) : Cpu := { k with d := hiByte v, e := loByte v }
def Cpu.setHl (v : Word) (k : Cpu) : Cpu := { k with h := hiByte v, l := loByte v }

/-- The pair field of loads and arithmetic (30_encoding R133). -/
def Cpu.pair (k : Cpu) : Pair → Word
  | .bc => k.bc
  | .de => k.de
  | .hl => k.hl
  | .sp => k.sp

def Cpu.setPair (p : Pair) (v : Word) (k : Cpu) : Cpu :=
  match p with
  | .bc => k.setBc v
  | .de => k.setDe v
  | .hl => k.setHl v
  | .sp => { k with sp := v }

/-- The pair field of `PUSH` and `POP` (30_encoding R133). -/
def Cpu.stackPair (k : Cpu) : StackPair → Word
  | .bc => k.bc
  | .de => k.de
  | .hl => k.hl
  | .af => k.af

def Cpu.setStackPair (p : StackPair) (v : Word) (k : Cpu) : Cpu :=
  match p with
  | .bc => k.setBc v
  | .de => k.setDe v
  | .hl => k.setHl v
  | .af => k.setAf v

/-- Change the CPU part of the state. -/
def onCpu (f : Cpu → Cpu) (s : State) : State := { s with cpu := f s.cpu }

/-! ### Operands -/

/-- `ReadOp()`: a register or the byte at `HL`, which goes through the bus (43 R304, 41_alu8 R230). -/
def readOperand (s : State) : Operand8 → Byte
  | .reg r => s.cpu.reg8 r
  | .atHl => memRead s s.cpu.hl

/-- `WriteOp(v)` (43 R304). -/
def writeOperand (o : Operand8) (v : Byte) (s : State) : State :=
  match o with
  | .reg r => onCpu (Cpu.setReg8 r v) s
  | .atHl => memWrite s.cpu.hl v s

/-- The source operand: register, `(HL)` or immediate (41_alu8 R230). -/
def readSource (s : State) : Source8 → Byte
  | .op o => readOperand s o
  | .imm n => n

/-- The effective address of an accumulator load or store (40_loads R169). -/
def effectiveAddress (s : State) : Addressing → Word
  | .atBc => s.cpu.bc
  | .atDe => s.cpu.de
  | .absolute nn => nn
  | .ioPage n => word 0xFF n
  | .ioC => word 0xFF s.cpu.c
  | .hlInc => s.cpu.hl
  | .hlDec => s.cpu.hl

/-- What the addressing mode does to `HL` afterwards: `(HL+)` and `(HL-)` (40_loads R169). -/
def afterAddressing (m : Addressing) (k : Cpu) : Cpu :=
  match m with
  | .hlInc => k.setHl (k.hl + 1)
  | .hlDec => k.setHl (k.hl - 1)
  | .atBc => k
  | .atDe => k
  | .absolute _ => k
  | .ioPage _ => k
  | .ioC => k

/-- `Cond(cc)` (44_control R350). -/
def Flags.holds (f : Flags) : Cond → Bool
  | .nz => !f.z
  | .z => f.z
  | .nc => !f.c
  | .c => f.c

end Sys2Proof.Machine
end

