-- ==== Sys2Proof/Machine/Ops.lean ====
section
/-! DEFINITION. The named operations the meanings share: fetch, stack, taking an interrupt and returning from one,
the report of an illegal opcode, the device phase, and the parts of the CPU step (00_scope R13-R15, 45_system R393,
60_exceptions R425-R430, 64_scheduler R600, R601). -/

namespace Sys2Proof.Machine

/-- `return n`: the instruction completes, its M-cycle count recorded (00_scope R15). -/
def done (n : Nat) (s : State) : Result := .next { s with elapsed := n }

/-! ### Fetch -/

/-- `Fetch8()` (00_scope R13). -/
def fetch8 (s : State) : Byte × State :=
  (memRead s s.cpu.pc, onCpu (fun k => { k with pc := k.pc + 1 }) s)

/-- `FetchOpcode()`: under the HALT bug the pc does not move (45_system R393). -/
def fetchOpcode (s : State) : Byte × State :=
  (memRead s s.cpu.pc,
    onCpu (fun k => if k.haltBug then { k with haltBug := false } else { k with pc := k.pc + 1 }) s)

/-- `Decode()`: the opcode, then as many further bytes as its length asks for (30_encoding R143). -/
def fetchInstr (s : State) : Instr × State :=
  let (op, s) := fetchOpcode s
  match instrLength op with
  | 1 => (decodeBytes op 0 0, s)
  | 2 =>
    let (b1, s) := fetch8 s
    (decodeBytes op b1 0, s)
  | _ =>
    let (b1, s) := fetch8 s
    let (b2, s) := fetch8 s
    (decodeBytes op b1 b2, s)

/-! ### Stack -/

/-- `Push16(v)`: the high byte first, at the higher address (00_scope R14). -/
def push16 (v : Word) (s : State) : State :=
  let s := onCpu (fun k => { k with sp := k.sp - 1 }) s
  let s := memWrite s.cpu.sp (hiByte v) s
  let s := onCpu (fun k => { k with sp := k.sp - 1 }) s
  memWrite s.cpu.sp (loByte v) s

/-- `Pop16()`: low byte, then high byte (00_scope R14). -/
def pop16 (s : State) : Word × State :=
  let lo := memRead s s.cpu.sp
  let s := onCpu (fun k => { k with sp := k.sp + 1 }) s
  let hi := memRead s s.cpu.sp
  (word hi lo, onCpu (fun k => { k with sp := k.sp + 1 }) s)

/-- `MemWrite(addr, 2, v)`: low byte, then high byte at `addr + 1` (00_scope R13). -/
def memWrite16 (a : Word) (v : Word) (s : State) : State :=
  memWrite (a + 1) (hiByte v) (memWrite a (loByte v) s)

/-! ### Taking an interrupt, returning from one, and the one abnormal event -/

/-- `ServiceInterrupt()`: push the pc (the HALT itself under the HALT bug), clear `IME`, then acknowledge the
highest-priority source pending after the push and go to its vector, or to 0x0000 if none is (60_exceptions R430). -/
def serviceInterrupt (s : State) : State :=
  let ret := if s.cpu.haltBug then s.cpu.pc - 1 else s.cpu.pc
  let s := push16 ret (onCpu (fun k => { k with haltBug := false }) s)
  let s := onCpu (fun k => { k with ime := false }) s
  let s :=
    match firstSource (pendingSet s) with
    | none => onCpu (fun k => { k with pc := 0x0000 }) s
    | some k => acknowledge k (onCpu (fun c => { c with pc := k.vector }) s)
  { s with elapsed := 5 }

/-- `RET`'s effect: `pc <- Pop16()` (44_control R358). -/
def returnTo (s : State) : State :=
  let (v, s) := pop16 s
  onCpu (fun k => { k with pc := v }) s

/-- The return from an interrupt: as `RET`, and `IME <- 1` at once; nothing else is restored (60_exceptions R433). -/
def returnFromInterrupt (s : State) : State := onCpu (fun k => { k with ime := true }) (returnTo s)

/-- `raise IllegalOpcode(op, addr); mode <- locked`: the report, no push and no vector (60_exceptions R425). -/
def raiseIllegal (op : Byte) (addr : Word) (cause : IllegalCause) (s : State) : State :=
  onCpu (fun k => { k with mode := .locked })
    { s with diagnostic := some { op := op, addr := addr, cause := cause } }

/-! ### The parts of the CPU step (60_exceptions R426) -/

/-- What the CPU does in a step: an idle or dispatch step that is over, or an instruction to fetch. -/
inductive Phase where
  | over (s : State)
  | fetch (s : State)

/-- Steps 1 and 2 of `CpuStep()`: locked or stopped, the interrupt check, halt wake, halted (60_exceptions R426,
R428, R429). -/
def beginStep (s : State) : Phase :=
  if s.cpu.mode = .locked ∨ s.cpu.mode = .stopped then .over { s with elapsed := 1 }
  else if interruptPending s ∧ s.cpu.ime then .over (serviceInterrupt (onCpu (fun k => { k with mode := .running }) s))
  else if interruptPending s then .fetch (onCpu (fun k => { k with mode := .running }) s)
  else if s.cpu.mode = .halted then .over { s with elapsed := 1 }
  else .fetch s

/-- Step 6 of `CpuStep()`, the delayed `EI` (60_exceptions R426, R427). -/
def advanceEiDelay (s : State) : State :=
  onCpu
    (fun k =>
      if k.eiDelay = 1 then { k with eiDelay := 0, ime := true }
      else if k.eiDelay = 2 then { k with eiDelay := 1 }
      else k)
    s

/-! ### The device phase -/

/-- `f` applied `n` times. -/
def repeatN : Nat → (State → State) → State → State
  | 0, _, s => s
  | n + 1, f, s => repeatN n f (f s)

/-- `DeviceMCycle()`: four PPU ticks and the timer unless the CPU is stopped, then the timed DMA (64_scheduler R601,
R602). -/
def deviceMCycle (s : State) : State :=
  dmaMCycle (if s.cpu.mode = .stopped then s else timerMCycle (repeatN 4 ppuTick s))

/-- The devices' M-cycles for the count the CPU step returned, and the master clock (64_scheduler R600). -/
def runDevices (s : State) : State :=
  let t := repeatN s.elapsed deviceMCycle s
  { t with cycles := t.cycles + 4 * s.elapsed }

/-! ### Loading an instruction from outside the machine (log entry 15) -/

/-- Put one byte where a fetch of address `a` reads it: the boot ROM under the overlay, else the address's cell. -/
def placeByte (a : Word) (v : Byte) (s : State) : State :=
  match regionOf a with
  | .bootPage =>
    if s.bootDisabled then pokeCell (cellOf a) v s
    else { s with cfg := { s.cfg with bootRom := Memory.set s.cfg.bootRom a.toNat v } }
  | .unusable => s
  | .io => s
  | .ie => s
  | _ => pokeCell (cellOf a) v s

/-- Make the next CPU step a plain fetch at the pc: no host event, CPU running, no HALT bug, no interrupt taken, no
timed DMA in the way, a cartridge not yet written to. -/
def readyToFetch (s : State) : State :=
  { s with
    inputs := []
    cartWrites := []
    dma := { s.dma with active := false }
    cpu := { s.cpu with mode := .running, haltBug := false, ime := s.cpu.ime && !interruptPending s } }

/-- The bytes placed one after the other from address `a`. -/
def placeBytes : List Byte → Word → State → State
  | [], _, s => s
  | v :: vs, a, s => placeBytes vs (a + 1) (placeByte a v s)

end Sys2Proof.Machine
end

