-- ==== Sys2Proof/Machine/Alu16.lean ====
section
/-! DEFINITION. 16-bit arithmetic (42_alu16 R280-R285). -/

namespace Sys2Proof.Machine

/-! ### Shared operations -/

/-- `INC rr` and `DEC rr`: no flag (42_alu16 R280, R281). -/
def addToPair (p : Pair) (delta : Word) (n : Nat) (s : State) : Result :=
  done n (onCpu (fun k => k.setPair p (k.pair p + delta)) s)

/-- `ADD HL, rr` (42_alu16 R282). -/
def addHl (p : Pair) (n : Nat) (s : State) : Result :=
  let r := addHlResult s.cpu.hl (s.cpu.pair p) s.cpu.f
  done n (onCpu (fun k => { k.setHl r.1 with f := r.2 }) s)

/-- `ADD SP, e` (42_alu16 R283). -/
def addSp (d : Byte) (n : Nat) (s : State) : Result :=
  let r := spOffsetResult s.cpu.sp d
  done n (onCpu (fun k => { k with sp := r.1, f := r.2 }) s)

/-- `LD HL, SP+e` (42_alu16 R284). -/
def loadHlSp (d : Byte) (n : Nat) (s : State) : Result :=
  let r := spOffsetResult s.cpu.sp d
  done n (onCpu (fun k => { k.setHl r.1 with f := r.2 }) s)

/-! ### The instructions -/

/-- `ADD SP, e` (42_alu16 R283). -/
def exec_add_sp_e (e : Byte) (s : State) : Result := addSp e 4 s

/-- `LD HL, SP+e` (42_alu16 R284). -/
def exec_ld_hl_sp_e (e : Byte) (s : State) : Result := loadHlSp e 3 s

/-- `INC BC` (42_alu16 R280). -/
def exec_inc_bc (s : State) : Result := addToPair .bc 1 2 s

/-- `ADD HL, BC` (42_alu16 R282). -/
def exec_add_hl_bc (s : State) : Result := addHl .bc 2 s

/-- `DEC BC` (42_alu16 R281). -/
def exec_dec_bc (s : State) : Result := addToPair .bc (-1) 2 s

/-- `INC DE` (42_alu16 R280). -/
def exec_inc_de (s : State) : Result := addToPair .de 1 2 s

/-- `ADD HL, DE` (42_alu16 R282). -/
def exec_add_hl_de (s : State) : Result := addHl .de 2 s

/-- `DEC DE` (42_alu16 R281). -/
def exec_dec_de (s : State) : Result := addToPair .de (-1) 2 s

/-- `INC HL` (42_alu16 R280). -/
def exec_inc_hl (s : State) : Result := addToPair .hl 1 2 s

/-- `ADD HL, HL` (42_alu16 R282). -/
def exec_add_hl_hl (s : State) : Result := addHl .hl 2 s

/-- `DEC HL` (42_alu16 R281). -/
def exec_dec_hl (s : State) : Result := addToPair .hl (-1) 2 s

/-- `INC SP` (42_alu16 R280). -/
def exec_inc_sp (s : State) : Result := addToPair .sp 1 2 s

/-- `ADD HL, SP` (42_alu16 R282). -/
def exec_add_hl_sp (s : State) : Result := addHl .sp 2 s

/-- `DEC SP` (42_alu16 R281). -/
def exec_dec_sp (s : State) : Result := addToPair .sp (-1) 2 s

end Sys2Proof.Machine
end

