-- ==== Sys2Proof/Machine/Alu8.lean ====
section
/-! DEFINITION. 8-bit arithmetic and logic (41_alu8 R230-R247). -/

namespace Sys2Proof.Machine

/-! ### Shared operations -/

/-- `op A, s`: the source is read before `A` is written; `CP` leaves `A` (41_alu8 R230-R238). -/
def alu (op : AluOp) (src : Source8) (n : Nat) (s : State) : Result :=
  let r := aluResult op s.cpu.a (readSource s src) s.cpu.f.c
  done n (onCpu (fun k => { k with a := if aluWritesA op then r.1 else k.a, f := r.2 }) s)

/-- `INC r` and `INC (HL)` (41_alu8 R239, R240). -/
def inc8 (o : Operand8) (n : Nat) (s : State) : Result :=
  let r := incResult (readOperand s o) s.cpu.f
  done n (onCpu (fun k => { k with f := r.2 }) (writeOperand o r.1 s))

/-- `DEC r` and `DEC (HL)` (41_alu8 R241, R242). -/
def dec8 (o : Operand8) (n : Nat) (s : State) : Result :=
  let r := decResult (readOperand s o) s.cpu.f
  done n (onCpu (fun k => { k with f := r.2 }) (writeOperand o r.1 s))

/-- An operation on `A` and the flags alone (41_alu8 R243-R246). -/
def accumulator (g : Byte → Flags → Byte × Flags) (n : Nat) (s : State) : Result :=
  let r := g s.cpu.a s.cpu.f
  done n (onCpu (fun k => { k with a := r.1, f := r.2 }) s)

/-! ### The instructions -/

/-- `ADD A, n` (41_alu8 R231). -/
def exec_add_a_n (n : Byte) (s : State) : Result := alu .add (.imm n) 2 s

/-- `ADC A, n` (41_alu8 R232). -/
def exec_adc_a_n (n : Byte) (s : State) : Result := alu .adc (.imm n) 2 s

/-- `SUB n` (41_alu8 R233). -/
def exec_sub_n (n : Byte) (s : State) : Result := alu .sub (.imm n) 2 s

/-- `SBC A, n` (41_alu8 R234). -/
def exec_sbc_a_n (n : Byte) (s : State) : Result := alu .sbc (.imm n) 2 s

/-- `AND n` (41_alu8 R236). -/
def exec_and_n (n : Byte) (s : State) : Result := alu .and (.imm n) 2 s

/-- `XOR n` (41_alu8 R237). -/
def exec_xor_n (n : Byte) (s : State) : Result := alu .xor (.imm n) 2 s

/-- `OR n` (41_alu8 R238). -/
def exec_or_n (n : Byte) (s : State) : Result := alu .or (.imm n) 2 s

/-- `CP n` (41_alu8 R235). -/
def exec_cp_n (n : Byte) (s : State) : Result := alu .cp (.imm n) 2 s

/-- `INC B` (41_alu8 R239). -/
def exec_inc_b (s : State) : Result := inc8 (.reg .b) 1 s

/-- `DEC B` (41_alu8 R241). -/
def exec_dec_b (s : State) : Result := dec8 (.reg .b) 1 s

/-- `INC C` (41_alu8 R239). -/
def exec_inc_c (s : State) : Result := inc8 (.reg .c) 1 s

/-- `DEC C` (41_alu8 R241). -/
def exec_dec_c (s : State) : Result := dec8 (.reg .c) 1 s

/-- `INC D` (41_alu8 R239). -/
def exec_inc_d (s : State) : Result := inc8 (.reg .d) 1 s

/-- `DEC D` (41_alu8 R241). -/
def exec_dec_d (s : State) : Result := dec8 (.reg .d) 1 s

/-- `INC E` (41_alu8 R239). -/
def exec_inc_e (s : State) : Result := inc8 (.reg .e) 1 s

/-- `DEC E` (41_alu8 R241). -/
def exec_dec_e (s : State) : Result := dec8 (.reg .e) 1 s

/-- `INC H` (41_alu8 R239). -/
def exec_inc_h (s : State) : Result := inc8 (.reg .h) 1 s

/-- `DEC H` (41_alu8 R241). -/
def exec_dec_h (s : State) : Result := dec8 (.reg .h) 1 s

/-- `DAA` (41_alu8 R243). -/
def exec_daa (s : State) : Result := accumulator daaResult 1 s

/-- `INC L` (41_alu8 R239). -/
def exec_inc_l (s : State) : Result := inc8 (.reg .l) 1 s

/-- `DEC L` (41_alu8 R241). -/
def exec_dec_l (s : State) : Result := dec8 (.reg .l) 1 s

/-- `CPL` (41_alu8 R244). -/
def exec_cpl (s : State) : Result := accumulator (fun a f => (~~~a, cplFlags f)) 1 s

/-- `INC (HL)` (41_alu8 R240). -/
def exec_inc_at_hl (s : State) : Result := inc8 .atHl 3 s

/-- `DEC (HL)` (41_alu8 R242). -/
def exec_dec_at_hl (s : State) : Result := dec8 .atHl 3 s

/-- `SCF` (41_alu8 R245). -/
def exec_scf (s : State) : Result := accumulator (fun a f => (a, scfFlags f)) 1 s

/-- `INC A` (41_alu8 R239). -/
def exec_inc_a (s : State) : Result := inc8 (.reg .a) 1 s

/-- `DEC A` (41_alu8 R241). -/
def exec_dec_a (s : State) : Result := dec8 (.reg .a) 1 s

/-- `CCF` (41_alu8 R246). -/
def exec_ccf (s : State) : Result := accumulator (fun a f => (a, ccfFlags f)) 1 s

/-- `ADD A, B` (41_alu8 R231). -/
def exec_add_a_b (s : State) : Result := alu .add (.op (.reg .b)) 1 s

/-- `ADD A, C` (41_alu8 R231). -/
def exec_add_a_c (s : State) : Result := alu .add (.op (.reg .c)) 1 s

/-- `ADD A, D` (41_alu8 R231). -/
def exec_add_a_d (s : State) : Result := alu .add (.op (.reg .d)) 1 s

/-- `ADD A, E` (41_alu8 R231). -/
def exec_add_a_e (s : State) : Result := alu .add (.op (.reg .e)) 1 s

/-- `ADD A, H` (41_alu8 R231). -/
def exec_add_a_h (s : State) : Result := alu .add (.op (.reg .h)) 1 s

/-- `ADD A, L` (41_alu8 R231). -/
def exec_add_a_l (s : State) : Result := alu .add (.op (.reg .l)) 1 s

/-- `ADD A, (HL)` (41_alu8 R231). -/
def exec_add_a_at_hl (s : State) : Result := alu .add (.op .atHl) 2 s

/-- `ADD A, A` (41_alu8 R231). -/
def exec_add_a_a (s : State) : Result := alu .add (.op (.reg .a)) 1 s

/-- `ADC A, B` (41_alu8 R232). -/
def exec_adc_a_b (s : State) : Result := alu .adc (.op (.reg .b)) 1 s

/-- `ADC A, C` (41_alu8 R232). -/
def exec_adc_a_c (s : State) : Result := alu .adc (.op (.reg .c)) 1 s

/-- `ADC A, D` (41_alu8 R232). -/
def exec_adc_a_d (s : State) : Result := alu .adc (.op (.reg .d)) 1 s

/-- `ADC A, E` (41_alu8 R232). -/
def exec_adc_a_e (s : State) : Result := alu .adc (.op (.reg .e)) 1 s

/-- `ADC A, H` (41_alu8 R232). -/
def exec_adc_a_h (s : State) : Result := alu .adc (.op (.reg .h)) 1 s

/-- `ADC A, L` (41_alu8 R232). -/
def exec_adc_a_l (s : State) : Result := alu .adc (.op (.reg .l)) 1 s

/-- `ADC A, (HL)` (41_alu8 R232). -/
def exec_adc_a_at_hl (s : State) : Result := alu .adc (.op .atHl) 2 s

/-- `ADC A, A` (41_alu8 R232). -/
def exec_adc_a_a (s : State) : Result := alu .adc (.op (.reg .a)) 1 s

/-- `SUB B` (41_alu8 R233). -/
def exec_sub_b (s : State) : Result := alu .sub (.op (.reg .b)) 1 s

/-- `SUB C` (41_alu8 R233). -/
def exec_sub_c (s : State) : Result := alu .sub (.op (.reg .c)) 1 s

/-- `SUB D` (41_alu8 R233). -/
def exec_sub_d (s : State) : Result := alu .sub (.op (.reg .d)) 1 s

/-- `SUB E` (41_alu8 R233). -/
def exec_sub_e (s : State) : Result := alu .sub (.op (.reg .e)) 1 s

/-- `SUB H` (41_alu8 R233). -/
def exec_sub_h (s : State) : Result := alu .sub (.op (.reg .h)) 1 s

/-- `SUB L` (41_alu8 R233). -/
def exec_sub_l (s : State) : Result := alu .sub (.op (.reg .l)) 1 s

/-- `SUB (HL)` (41_alu8 R233). -/
def exec_sub_at_hl (s : State) : Result := alu .sub (.op .atHl) 2 s

/-- `SUB A` (41_alu8 R233). -/
def exec_sub_a (s : State) : Result := alu .sub (.op (.reg .a)) 1 s

/-- `SBC A, B` (41_alu8 R234). -/
def exec_sbc_a_b (s : State) : Result := alu .sbc (.op (.reg .b)) 1 s

/-- `SBC A, C` (41_alu8 R234). -/
def exec_sbc_a_c (s : State) : Result := alu .sbc (.op (.reg .c)) 1 s

/-- `SBC A, D` (41_alu8 R234). -/
def exec_sbc_a_d (s : State) : Result := alu .sbc (.op (.reg .d)) 1 s

/-- `SBC A, E` (41_alu8 R234). -/
def exec_sbc_a_e (s : State) : Result := alu .sbc (.op (.reg .e)) 1 s

/-- `SBC A, H` (41_alu8 R234). -/
def exec_sbc_a_h (s : State) : Result := alu .sbc (.op (.reg .h)) 1 s

/-- `SBC A, L` (41_alu8 R234). -/
def exec_sbc_a_l (s : State) : Result := alu .sbc (.op (.reg .l)) 1 s

/-- `SBC A, (HL)` (41_alu8 R234). -/
def exec_sbc_a_at_hl (s : State) : Result := alu .sbc (.op .atHl) 2 s

/-- `SBC A, A` (41_alu8 R234). -/
def exec_sbc_a_a (s : State) : Result := alu .sbc (.op (.reg .a)) 1 s

/-- `AND B` (41_alu8 R236). -/
def exec_and_b (s : State) : Result := alu .and (.op (.reg .b)) 1 s

/-- `AND C` (41_alu8 R236). -/
def exec_and_c (s : State) : Result := alu .and (.op (.reg .c)) 1 s

/-- `AND D` (41_alu8 R236). -/
def exec_and_d (s : State) : Result := alu .and (.op (.reg .d)) 1 s

/-- `AND E` (41_alu8 R236). -/
def exec_and_e (s : State) : Result := alu .and (.op (.reg .e)) 1 s

/-- `AND H` (41_alu8 R236). -/
def exec_and_h (s : State) : Result := alu .and (.op (.reg .h)) 1 s

/-- `AND L` (41_alu8 R236). -/
def exec_and_l (s : State) : Result := alu .and (.op (.reg .l)) 1 s

/-- `AND (HL)` (41_alu8 R236). -/
def exec_and_at_hl (s : State) : Result := alu .and (.op .atHl) 2 s

/-- `AND A` (41_alu8 R236). -/
def exec_and_a (s : State) : Result := alu .and (.op (.reg .a)) 1 s

/-- `XOR B` (41_alu8 R237). -/
def exec_xor_b (s : State) : Result := alu .xor (.op (.reg .b)) 1 s

/-- `XOR C` (41_alu8 R237). -/
def exec_xor_c (s : State) : Result := alu .xor (.op (.reg .c)) 1 s

/-- `XOR D` (41_alu8 R237). -/
def exec_xor_d (s : State) : Result := alu .xor (.op (.reg .d)) 1 s

/-- `XOR E` (41_alu8 R237). -/
def exec_xor_e (s : State) : Result := alu .xor (.op (.reg .e)) 1 s

/-- `XOR H` (41_alu8 R237). -/
def exec_xor_h (s : State) : Result := alu .xor (.op (.reg .h)) 1 s

/-- `XOR L` (41_alu8 R237). -/
def exec_xor_l (s : State) : Result := alu .xor (.op (.reg .l)) 1 s

/-- `XOR (HL)` (41_alu8 R237). -/
def exec_xor_at_hl (s : State) : Result := alu .xor (.op .atHl) 2 s

/-- `XOR A` (41_alu8 R237). -/
def exec_xor_a (s : State) : Result := alu .xor (.op (.reg .a)) 1 s

/-- `OR B` (41_alu8 R238). -/
def exec_or_b (s : State) : Result := alu .or (.op (.reg .b)) 1 s

/-- `OR C` (41_alu8 R238). -/
def exec_or_c (s : State) : Result := alu .or (.op (.reg .c)) 1 s

/-- `OR D` (41_alu8 R238). -/
def exec_or_d (s : State) : Result := alu .or (.op (.reg .d)) 1 s

/-- `OR E` (41_alu8 R238). -/
def exec_or_e (s : State) : Result := alu .or (.op (.reg .e)) 1 s

/-- `OR H` (41_alu8 R238). -/
def exec_or_h (s : State) : Result := alu .or (.op (.reg .h)) 1 s

/-- `OR L` (41_alu8 R238). -/
def exec_or_l (s : State) : Result := alu .or (.op (.reg .l)) 1 s

/-- `OR (HL)` (41_alu8 R238). -/
def exec_or_at_hl (s : State) : Result := alu .or (.op .atHl) 2 s

/-- `OR A` (41_alu8 R238). -/
def exec_or_a (s : State) : Result := alu .or (.op (.reg .a)) 1 s

/-- `CP B` (41_alu8 R235). -/
def exec_cp_b (s : State) : Result := alu .cp (.op (.reg .b)) 1 s

/-- `CP C` (41_alu8 R235). -/
def exec_cp_c (s : State) : Result := alu .cp (.op (.reg .c)) 1 s

/-- `CP D` (41_alu8 R235). -/
def exec_cp_d (s : State) : Result := alu .cp (.op (.reg .d)) 1 s

/-- `CP E` (41_alu8 R235). -/
def exec_cp_e (s : State) : Result := alu .cp (.op (.reg .e)) 1 s

/-- `CP H` (41_alu8 R235). -/
def exec_cp_h (s : State) : Result := alu .cp (.op (.reg .h)) 1 s

/-- `CP L` (41_alu8 R235). -/
def exec_cp_l (s : State) : Result := alu .cp (.op (.reg .l)) 1 s

/-- `CP (HL)` (41_alu8 R235). -/
def exec_cp_at_hl (s : State) : Result := alu .cp (.op .atHl) 2 s

/-- `CP A` (41_alu8 R235). -/
def exec_cp_a (s : State) : Result := alu .cp (.op (.reg .a)) 1 s

end Sys2Proof.Machine
end

