-- ==== Sys2Proof/Machine/Control.lean ====
section
/-! DEFINITION. Jumps, calls and returns (44_control R350-R363). The pc already holds the address of the next
instruction. -/

namespace Sys2Proof.Machine

/-! ### Shared operations -/

/-- `pc <- target` (44_control R351, R353, R354). -/
def jump (target : Word) (n : Nat) (s : State) : Result := done n (onCpu (fun k => { k with pc := target }) s)

/-- A conditional jump, with its two counts (44_control R352, R355). -/
def jumpIf (cc : Cond) (target : Word) (taken notTaken : Nat) (s : State) : Result :=
  if s.cpu.f.holds cc then jump target taken s else done notTaken s

/-- `Push16(pc); pc <- target` (44_control R356, R361). -/
def call (target : Word) (n : Nat) (s : State) : Result := jump target n (push16 s.cpu.pc s)

/-- `CALL cc, nn`: not taken, no stack access (44_control R357). -/
def callIf (cc : Cond) (target : Word) (taken notTaken : Nat) (s : State) : Result :=
  if s.cpu.f.holds cc then call target taken s else done notTaken s

/-- `RET` (44_control R358). -/
def ret (n : Nat) (s : State) : Result := done n (returnTo s)

/-- `RET cc` (44_control R359). -/
def retIf (cc : Cond) (taken notTaken : Nat) (s : State) : Result :=
  if s.cpu.f.holds cc then ret taken s else done notTaken s

/-- `RETI` (44_control R360). -/
def reti (n : Nat) (s : State) : Result := done n (returnFromInterrupt s)

/-! ### The instructions -/

/-- `JR e` (44_control R354). -/
def exec_jr_e (e : Byte) (s : State) : Result := jump (s.cpu.pc + signExtend16 e) 3 s

/-- `JR NZ, e` (44_control R355). -/
def exec_jr_nz_e (e : Byte) (s : State) : Result := jumpIf .nz (s.cpu.pc + signExtend16 e) 3 2 s

/-- `JR Z, e` (44_control R355). -/
def exec_jr_z_e (e : Byte) (s : State) : Result := jumpIf .z (s.cpu.pc + signExtend16 e) 3 2 s

/-- `JR NC, e` (44_control R355). -/
def exec_jr_nc_e (e : Byte) (s : State) : Result := jumpIf .nc (s.cpu.pc + signExtend16 e) 3 2 s

/-- `JR C, e` (44_control R355). -/
def exec_jr_c_e (e : Byte) (s : State) : Result := jumpIf .c (s.cpu.pc + signExtend16 e) 3 2 s

/-- `JP NZ, nn` (44_control R352). -/
def exec_jp_nz_nn (nn : Word) (s : State) : Result := jumpIf .nz nn 4 3 s

/-- `JP nn` (44_control R351). -/
def exec_jp_nn (nn : Word) (s : State) : Result := jump nn 4 s

/-- `CALL NZ, nn` (44_control R357). -/
def exec_call_nz_nn (nn : Word) (s : State) : Result := callIf .nz nn 6 3 s

/-- `JP Z, nn` (44_control R352). -/
def exec_jp_z_nn (nn : Word) (s : State) : Result := jumpIf .z nn 4 3 s

/-- `CALL Z, nn` (44_control R357). -/
def exec_call_z_nn (nn : Word) (s : State) : Result := callIf .z nn 6 3 s

/-- `CALL nn` (44_control R356). -/
def exec_call_nn (nn : Word) (s : State) : Result := call nn 6 s

/-- `JP NC, nn` (44_control R352). -/
def exec_jp_nc_nn (nn : Word) (s : State) : Result := jumpIf .nc nn 4 3 s

/-- `CALL NC, nn` (44_control R357). -/
def exec_call_nc_nn (nn : Word) (s : State) : Result := callIf .nc nn 6 3 s

/-- `JP C, nn` (44_control R352). -/
def exec_jp_c_nn (nn : Word) (s : State) : Result := jumpIf .c nn 4 3 s

/-- `CALL C, nn` (44_control R357). -/
def exec_call_c_nn (nn : Word) (s : State) : Result := callIf .c nn 6 3 s

/-- `RET NZ` (44_control R359). -/
def exec_ret_nz (s : State) : Result := retIf .nz 5 2 s

/-- `RST 0x00` (44_control R361). -/
def exec_rst_00 (s : State) : Result := call (RstVector.v00).address 4 s

/-- `RET Z` (44_control R359). -/
def exec_ret_z (s : State) : Result := retIf .z 5 2 s

/-- `RET` (44_control R358). -/
def exec_ret (s : State) : Result := ret 4 s

/-- `RST 0x08` (44_control R361). -/
def exec_rst_08 (s : State) : Result := call (RstVector.v08).address 4 s

/-- `RET NC` (44_control R359). -/
def exec_ret_nc (s : State) : Result := retIf .nc 5 2 s

/-- `RST 0x10` (44_control R361). -/
def exec_rst_10 (s : State) : Result := call (RstVector.v10).address 4 s

/-- `RET C` (44_control R359). -/
def exec_ret_c (s : State) : Result := retIf .c 5 2 s

/-- `RETI` (44_control R360). -/
def exec_reti (s : State) : Result := reti 4 s

/-- `RST 0x18` (44_control R361). -/
def exec_rst_18 (s : State) : Result := call (RstVector.v18).address 4 s

/-- `RST 0x20` (44_control R361). -/
def exec_rst_20 (s : State) : Result := call (RstVector.v20).address 4 s

/-- `JP HL` (44_control R353). -/
def exec_jp_hl (s : State) : Result := jump s.cpu.hl 1 s

/-- `RST 0x28` (44_control R361). -/
def exec_rst_28 (s : State) : Result := call (RstVector.v28).address 4 s

/-- `RST 0x30` (44_control R361). -/
def exec_rst_30 (s : State) : Result := call (RstVector.v30).address 4 s

/-- `RST 0x38` (44_control R361). -/
def exec_rst_38 (s : State) : Result := call (RstVector.v38).address 4 s

end Sys2Proof.Machine
end

