-- ==== Sys2Proof/Machine/Loads.lean ====
section
/-! DEFINITION. Loads, stores and stack transfers (40_loads R169-R194). No load writes a flag (90 C1). -/

namespace Sys2Proof.Machine

/-! ### Shared operations -/

/-- The 8-bit loads over registers, `(HL)` and immediates: the address is that before the write (40_loads R170-R174). -/
def load8 (dst : Operand8) (src : Source8) (n : Nat) (s : State) : Result :=
  done n (writeOperand dst (readSource s src) s)

/-- The loads into `A`: read, then the mode's change of `HL` (40_loads R175, R176, R179, R181, R183, R186, R188). -/
def loadA (m : Addressing) (n : Nat) (s : State) : Result :=
  let v := memRead s (effectiveAddress s m)
  done n (onCpu (fun k => afterAddressing m { k with a := v }) s)

/-- The stores of `A`: write, then the mode's change of `HL` (40_loads R177, R178, R180, R182, R184, R185, R187). -/
def storeA (m : Addressing) (n : Nat) (s : State) : Result :=
  done n (onCpu (afterAddressing m) (memWrite (effectiveAddress s m) s.cpu.a s))

/-- `LD rr, nn` (40_loads R189). -/
def loadPair (p : Pair) (nn : Word) (n : Nat) (s : State) : Result := done n (onCpu (Cpu.setPair p nn) s)

/-- `LD (nn), SP` (40_loads R190). -/
def storeSp (nn : Word) (n : Nat) (s : State) : Result := done n (memWrite16 nn s.cpu.sp s)

/-- `LD SP, HL` (40_loads R191). -/
def loadSpHl (n : Nat) (s : State) : Result := done n (onCpu (fun k => { k with sp := k.hl }) s)

/-- `PUSH rr` (40_loads R192). -/
def pushPair (p : StackPair) (n : Nat) (s : State) : Result := done n (push16 (s.cpu.stackPair p) s)

/-- `POP rr` (40_loads R193, R194). -/
def popPair (p : StackPair) (n : Nat) (s : State) : Result :=
  let (v, s) := pop16 s
  done n (onCpu (Cpu.setStackPair p v) s)

/-! ### The instructions -/

/-- `LD BC, nn` (40_loads R189). -/
def exec_ld_bc_nn (nn : Word) (s : State) : Result := loadPair .bc nn 3 s

/-- `LD B, n` (40_loads R171). -/
def exec_ld_b_n (n : Byte) (s : State) : Result := load8 (.reg .b) (.imm n) 2 s

/-- `LD (nn), SP` (40_loads R190). -/
def exec_ld_at_nn_sp (nn : Word) (s : State) : Result := storeSp nn 5 s

/-- `LD C, n` (40_loads R171). -/
def exec_ld_c_n (n : Byte) (s : State) : Result := load8 (.reg .c) (.imm n) 2 s

/-- `LD DE, nn` (40_loads R189). -/
def exec_ld_de_nn (nn : Word) (s : State) : Result := loadPair .de nn 3 s

/-- `LD D, n` (40_loads R171). -/
def exec_ld_d_n (n : Byte) (s : State) : Result := load8 (.reg .d) (.imm n) 2 s

/-- `LD E, n` (40_loads R171). -/
def exec_ld_e_n (n : Byte) (s : State) : Result := load8 (.reg .e) (.imm n) 2 s

/-- `LD HL, nn` (40_loads R189). -/
def exec_ld_hl_nn (nn : Word) (s : State) : Result := loadPair .hl nn 3 s

/-- `LD H, n` (40_loads R171). -/
def exec_ld_h_n (n : Byte) (s : State) : Result := load8 (.reg .h) (.imm n) 2 s

/-- `LD L, n` (40_loads R171). -/
def exec_ld_l_n (n : Byte) (s : State) : Result := load8 (.reg .l) (.imm n) 2 s

/-- `LD SP, nn` (40_loads R189). -/
def exec_ld_sp_nn (nn : Word) (s : State) : Result := loadPair .sp nn 3 s

/-- `LD (HL), n` (40_loads R174). -/
def exec_ld_at_hl_n (n : Byte) (s : State) : Result := load8 .atHl (.imm n) 3 s

/-- `LD A, n` (40_loads R171). -/
def exec_ld_a_n (n : Byte) (s : State) : Result := load8 (.reg .a) (.imm n) 2 s

/-- `LDH (n), A` (40_loads R182). -/
def exec_ldh_at_n_a (n : Byte) (s : State) : Result := storeA (.ioPage n) 3 s

/-- `LD (nn), A` (40_loads R180). -/
def exec_ld_at_nn_a (nn : Word) (s : State) : Result := storeA (.absolute nn) 4 s

/-- `LDH A, (n)` (40_loads R181). -/
def exec_ldh_a_at_n (n : Byte) (s : State) : Result := loadA (.ioPage n) 3 s

/-- `LD A, (nn)` (40_loads R179). -/
def exec_ld_a_at_nn (nn : Word) (s : State) : Result := loadA (.absolute nn) 4 s

/-- `LD (BC), A` (40_loads R177). -/
def exec_ld_at_bc_a (s : State) : Result := storeA .atBc 2 s

/-- `LD A, (BC)` (40_loads R175). -/
def exec_ld_a_at_bc (s : State) : Result := loadA .atBc 2 s

/-- `LD (DE), A` (40_loads R178). -/
def exec_ld_at_de_a (s : State) : Result := storeA .atDe 2 s

/-- `LD A, (DE)` (40_loads R176). -/
def exec_ld_a_at_de (s : State) : Result := loadA .atDe 2 s

/-- `LD (HL+), A` (40_loads R185). -/
def exec_ld_at_hli_a (s : State) : Result := storeA .hlInc 2 s

/-- `LD A, (HL+)` (40_loads R186). -/
def exec_ld_a_at_hli (s : State) : Result := loadA .hlInc 2 s

/-- `LD (HL-), A` (40_loads R187). -/
def exec_ld_at_hld_a (s : State) : Result := storeA .hlDec 2 s

/-- `LD A, (HL-)` (40_loads R188). -/
def exec_ld_a_at_hld (s : State) : Result := loadA .hlDec 2 s

/-- `LD B, B` (40_loads R170). -/
def exec_ld_b_b (s : State) : Result := load8 (.reg .b) (.op (.reg .b)) 1 s

/-- `LD B, C` (40_loads R170). -/
def exec_ld_b_c (s : State) : Result := load8 (.reg .b) (.op (.reg .c)) 1 s

/-- `LD B, D` (40_loads R170). -/
def exec_ld_b_d (s : State) : Result := load8 (.reg .b) (.op (.reg .d)) 1 s

/-- `LD B, E` (40_loads R170). -/
def exec_ld_b_e (s : State) : Result := load8 (.reg .b) (.op (.reg .e)) 1 s

/-- `LD B, H` (40_loads R170). -/
def exec_ld_b_h (s : State) : Result := load8 (.reg .b) (.op (.reg .h)) 1 s

/-- `LD B, L` (40_loads R170). -/
def exec_ld_b_l (s : State) : Result := load8 (.reg .b) (.op (.reg .l)) 1 s

/-- `LD B, (HL)` (40_loads R172). -/
def exec_ld_b_at_hl (s : State) : Result := load8 (.reg .b) (.op .atHl) 2 s

/-- `LD B, A` (40_loads R170). -/
def exec_ld_b_a (s : State) : Result := load8 (.reg .b) (.op (.reg .a)) 1 s

/-- `LD C, B` (40_loads R170). -/
def exec_ld_c_b (s : State) : Result := load8 (.reg .c) (.op (.reg .b)) 1 s

/-- `LD C, C` (40_loads R170). -/
def exec_ld_c_c (s : State) : Result := load8 (.reg .c) (.op (.reg .c)) 1 s

/-- `LD C, D` (40_loads R170). -/
def exec_ld_c_d (s : State) : Result := load8 (.reg .c) (.op (.reg .d)) 1 s

/-- `LD C, E` (40_loads R170). -/
def exec_ld_c_e (s : State) : Result := load8 (.reg .c) (.op (.reg .e)) 1 s

/-- `LD C, H` (40_loads R170). -/
def exec_ld_c_h (s : State) : Result := load8 (.reg .c) (.op (.reg .h)) 1 s

/-- `LD C, L` (40_loads R170). -/
def exec_ld_c_l (s : State) : Result := load8 (.reg .c) (.op (.reg .l)) 1 s

/-- `LD C, (HL)` (40_loads R172). -/
def exec_ld_c_at_hl (s : State) : Result := load8 (.reg .c) (.op .atHl) 2 s

/-- `LD C, A` (40_loads R170). -/
def exec_ld_c_a (s : State) : Result := load8 (.reg .c) (.op (.reg .a)) 1 s

/-- `LD D, B` (40_loads R170). -/
def exec_ld_d_b (s : State) : Result := load8 (.reg .d) (.op (.reg .b)) 1 s

/-- `LD D, C` (40_loads R170). -/
def exec_ld_d_c (s : State) : Result := load8 (.reg .d) (.op (.reg .c)) 1 s

/-- `LD D, D` (40_loads R170). -/
def exec_ld_d_d (s : State) : Result := load8 (.reg .d) (.op (.reg .d)) 1 s

/-- `LD D, E` (40_loads R170). -/
def exec_ld_d_e (s : State) : Result := load8 (.reg .d) (.op (.reg .e)) 1 s

/-- `LD D, H` (40_loads R170). -/
def exec_ld_d_h (s : State) : Result := load8 (.reg .d) (.op (.reg .h)) 1 s

/-- `LD D, L` (40_loads R170). -/
def exec_ld_d_l (s : State) : Result := load8 (.reg .d) (.op (.reg .l)) 1 s

/-- `LD D, (HL)` (40_loads R172). -/
def exec_ld_d_at_hl (s : State) : Result := load8 (.reg .d) (.op .atHl) 2 s

/-- `LD D, A` (40_loads R170). -/
def exec_ld_d_a (s : State) : Result := load8 (.reg .d) (.op (.reg .a)) 1 s

/-- `LD E, B` (40_loads R170). -/
def exec_ld_e_b (s : State) : Result := load8 (.reg .e) (.op (.reg .b)) 1 s

/-- `LD E, C` (40_loads R170). -/
def exec_ld_e_c (s : State) : Result := load8 (.reg .e) (.op (.reg .c)) 1 s

/-- `LD E, D` (40_loads R170). -/
def exec_ld_e_d (s : State) : Result := load8 (.reg .e) (.op (.reg .d)) 1 s

/-- `LD E, E` (40_loads R170). -/
def exec_ld_e_e (s : State) : Result := load8 (.reg .e) (.op (.reg .e)) 1 s

/-- `LD E, H` (40_loads R170). -/
def exec_ld_e_h (s : State) : Result := load8 (.reg .e) (.op (.reg .h)) 1 s

/-- `LD E, L` (40_loads R170). -/
def exec_ld_e_l (s : State) : Result := load8 (.reg .e) (.op (.reg .l)) 1 s

/-- `LD E, (HL)` (40_loads R172). -/
def exec_ld_e_at_hl (s : State) : Result := load8 (.reg .e) (.op .atHl) 2 s

/-- `LD E, A` (40_loads R170). -/
def exec_ld_e_a (s : State) : Result := load8 (.reg .e) (.op (.reg .a)) 1 s

/-- `LD H, B` (40_loads R170). -/
def exec_ld_h_b (s : State) : Result := load8 (.reg .h) (.op (.reg .b)) 1 s

/-- `LD H, C` (40_loads R170). -/
def exec_ld_h_c (s : State) : Result := load8 (.reg .h) (.op (.reg .c)) 1 s

/-- `LD H, D` (40_loads R170). -/
def exec_ld_h_d (s : State) : Result := load8 (.reg .h) (.op (.reg .d)) 1 s

/-- `LD H, E` (40_loads R170). -/
def exec_ld_h_e (s : State) : Result := load8 (.reg .h) (.op (.reg .e)) 1 s

/-- `LD H, H` (40_loads R170). -/
def exec_ld_h_h (s : State) : Result := load8 (.reg .h) (.op (.reg .h)) 1 s

/-- `LD H, L` (40_loads R170). -/
def exec_ld_h_l (s : State) : Result := load8 (.reg .h) (.op (.reg .l)) 1 s

/-- `LD H, (HL)` (40_loads R172). -/
def exec_ld_h_at_hl (s : State) : Result := load8 (.reg .h) (.op .atHl) 2 s

/-- `LD H, A` (40_loads R170). -/
def exec_ld_h_a (s : State) : Result := load8 (.reg .h) (.op (.reg .a)) 1 s

/-- `LD L, B` (40_loads R170). -/
def exec_ld_l_b (s : State) : Result := load8 (.reg .l) (.op (.reg .b)) 1 s

/-- `LD L, C` (40_loads R170). -/
def exec_ld_l_c (s : State) : Result := load8 (.reg .l) (.op (.reg .c)) 1 s

/-- `LD L, D` (40_loads R170). -/
def exec_ld_l_d (s : State) : Result := load8 (.reg .l) (.op (.reg .d)) 1 s

/-- `LD L, E` (40_loads R170). -/
def exec_ld_l_e (s : State) : Result := load8 (.reg .l) (.op (.reg .e)) 1 s

/-- `LD L, H` (40_loads R170). -/
def exec_ld_l_h (s : State) : Result := load8 (.reg .l) (.op (.reg .h)) 1 s

/-- `LD L, L` (40_loads R170). -/
def exec_ld_l_l (s : State) : Result := load8 (.reg .l) (.op (.reg .l)) 1 s

/-- `LD L, (HL)` (40_loads R172). -/
def exec_ld_l_at_hl (s : State) : Result := load8 (.reg .l) (.op .atHl) 2 s

/-- `LD L, A` (40_loads R170). -/
def exec_ld_l_a (s : State) : Result := load8 (.reg .l) (.op (.reg .a)) 1 s

/-- `LD (HL), B` (40_loads R173). -/
def exec_ld_at_hl_b (s : State) : Result := load8 .atHl (.op (.reg .b)) 2 s

/-- `LD (HL), C` (40_loads R173). -/
def exec_ld_at_hl_c (s : State) : Result := load8 .atHl (.op (.reg .c)) 2 s

/-- `LD (HL), D` (40_loads R173). -/
def exec_ld_at_hl_d (s : State) : Result := load8 .atHl (.op (.reg .d)) 2 s

/-- `LD (HL), E` (40_loads R173). -/
def exec_ld_at_hl_e (s : State) : Result := load8 .atHl (.op (.reg .e)) 2 s

/-- `LD (HL), H` (40_loads R173). -/
def exec_ld_at_hl_h (s : State) : Result := load8 .atHl (.op (.reg .h)) 2 s

/-- `LD (HL), L` (40_loads R173). -/
def exec_ld_at_hl_l (s : State) : Result := load8 .atHl (.op (.reg .l)) 2 s

/-- `LD (HL), A` (40_loads R173). -/
def exec_ld_at_hl_a (s : State) : Result := load8 .atHl (.op (.reg .a)) 2 s

/-- `LD A, B` (40_loads R170). -/
def exec_ld_a_b (s : State) : Result := load8 (.reg .a) (.op (.reg .b)) 1 s

/-- `LD A, C` (40_loads R170). -/
def exec_ld_a_c (s : State) : Result := load8 (.reg .a) (.op (.reg .c)) 1 s

/-- `LD A, D` (40_loads R170). -/
def exec_ld_a_d (s : State) : Result := load8 (.reg .a) (.op (.reg .d)) 1 s

/-- `LD A, E` (40_loads R170). -/
def exec_ld_a_e (s : State) : Result := load8 (.reg .a) (.op (.reg .e)) 1 s

/-- `LD A, H` (40_loads R170). -/
def exec_ld_a_h (s : State) : Result := load8 (.reg .a) (.op (.reg .h)) 1 s

/-- `LD A, L` (40_loads R170). -/
def exec_ld_a_l (s : State) : Result := load8 (.reg .a) (.op (.reg .l)) 1 s

/-- `LD A, (HL)` (40_loads R172). -/
def exec_ld_a_at_hl (s : State) : Result := load8 (.reg .a) (.op .atHl) 2 s

/-- `LD A, A` (40_loads R170). -/
def exec_ld_a_a (s : State) : Result := load8 (.reg .a) (.op (.reg .a)) 1 s

/-- `POP BC` (40_loads R193). -/
def exec_pop_bc (s : State) : Result := popPair .bc 3 s

/-- `PUSH BC` (40_loads R192). -/
def exec_push_bc (s : State) : Result := pushPair .bc 4 s

/-- `POP DE` (40_loads R193). -/
def exec_pop_de (s : State) : Result := popPair .de 3 s

/-- `PUSH DE` (40_loads R192). -/
def exec_push_de (s : State) : Result := pushPair .de 4 s

/-- `POP HL` (40_loads R193). -/
def exec_pop_hl (s : State) : Result := popPair .hl 3 s

/-- `LD (C), A` (40_loads R184). -/
def exec_ld_at_c_a (s : State) : Result := storeA .ioC 2 s

/-- `PUSH HL` (40_loads R192). -/
def exec_push_hl (s : State) : Result := pushPair .hl 4 s

/-- `POP AF` (40_loads R194). -/
def exec_pop_af (s : State) : Result := popPair .af 3 s

/-- `LD A, (C)` (40_loads R183). -/
def exec_ld_a_at_c (s : State) : Result := loadA .ioC 2 s

/-- `PUSH AF` (40_loads R192). -/
def exec_push_af (s : State) : Result := pushPair .af 4 s

/-- `LD SP, HL` (40_loads R191). -/
def exec_ld_sp_hl (s : State) : Result := loadSpHl 2 s

end Sys2Proof.Machine
end

