-- ==== Sys2Proof/Machine/Rotate.lean ====
section
/-! DEFINITION. Rotates, shifts and bit operations (43_rotate_shift_bit R300-R315). -/

namespace Sys2Proof.Machine

/-! ### Shared operations -/

/-- The accumulator rotates: Z is written 0 (43 R300-R303). -/
def rotateA (op : RotOp) (n : Nat) (s : State) : Result :=
  let r := rotateResult op s.cpu.a s.cpu.f.c
  done n (onCpu (fun k => { k with a := r.1, f := accRotateFlags r.2 }) s)

/-- The CB rotates, shifts and `SWAP`: Z from the result (43 R304-R312). -/
def rotate (op : RotOp) (o : Operand8) (n : Nat) (s : State) : Result :=
  let r := rotateResult op (readOperand s o) s.cpu.f.c
  done n (onCpu (fun k => { k with f := rotateFlags r.1 r.2 }) (writeOperand o r.1 s))

/-- `BIT b, o`: no write-back (43 R313). -/
def testBit (b : BitIndex) (o : Operand8) (n : Nat) (s : State) : Result :=
  let v := readOperand s o
  done n (onCpu (fun k => { k with f := bitFlags (v.getLsbD b.toNat) k.f }) s)

/-- `RES b, o` (43 R314). -/
def resetBit (b : BitIndex) (o : Operand8) (n : Nat) (s : State) : Result :=
  done n (writeOperand o (readOperand s o &&& ~~~bitMask b) s)

/-- `SET b, o` (43 R315). -/
def setBit (b : BitIndex) (o : Operand8) (n : Nat) (s : State) : Result :=
  done n (writeOperand o (readOperand s o ||| bitMask b) s)

/-! ### The instructions -/

/-- `RLCA` (43_rotate_shift_bit R300). -/
def exec_rlca (s : State) : Result := rotateA .rlc 1 s

/-- `RRCA` (43_rotate_shift_bit R301). -/
def exec_rrca (s : State) : Result := rotateA .rrc 1 s

/-- `RLA` (43_rotate_shift_bit R302). -/
def exec_rla (s : State) : Result := rotateA .rl 1 s

/-- `RRA` (43_rotate_shift_bit R303). -/
def exec_rra (s : State) : Result := rotateA .rr 1 s

/-- `RLC B` (43_rotate_shift_bit R305). -/
def exec_rlc_b (s : State) : Result := rotate .rlc (.reg .b) 2 s

/-- `RLC C` (43_rotate_shift_bit R305). -/
def exec_rlc_c (s : State) : Result := rotate .rlc (.reg .c) 2 s

/-- `RLC D` (43_rotate_shift_bit R305). -/
def exec_rlc_d (s : State) : Result := rotate .rlc (.reg .d) 2 s

/-- `RLC E` (43_rotate_shift_bit R305). -/
def exec_rlc_e (s : State) : Result := rotate .rlc (.reg .e) 2 s

/-- `RLC H` (43_rotate_shift_bit R305). -/
def exec_rlc_h (s : State) : Result := rotate .rlc (.reg .h) 2 s

/-- `RLC L` (43_rotate_shift_bit R305). -/
def exec_rlc_l (s : State) : Result := rotate .rlc (.reg .l) 2 s

/-- `RLC (HL)` (43_rotate_shift_bit R305). -/
def exec_rlc_at_hl (s : State) : Result := rotate .rlc .atHl 4 s

/-- `RLC A` (43_rotate_shift_bit R305). -/
def exec_rlc_a (s : State) : Result := rotate .rlc (.reg .a) 2 s

/-- `RRC B` (43_rotate_shift_bit R306). -/
def exec_rrc_b (s : State) : Result := rotate .rrc (.reg .b) 2 s

/-- `RRC C` (43_rotate_shift_bit R306). -/
def exec_rrc_c (s : State) : Result := rotate .rrc (.reg .c) 2 s

/-- `RRC D` (43_rotate_shift_bit R306). -/
def exec_rrc_d (s : State) : Result := rotate .rrc (.reg .d) 2 s

/-- `RRC E` (43_rotate_shift_bit R306). -/
def exec_rrc_e (s : State) : Result := rotate .rrc (.reg .e) 2 s

/-- `RRC H` (43_rotate_shift_bit R306). -/
def exec_rrc_h (s : State) : Result := rotate .rrc (.reg .h) 2 s

/-- `RRC L` (43_rotate_shift_bit R306). -/
def exec_rrc_l (s : State) : Result := rotate .rrc (.reg .l) 2 s

/-- `RRC (HL)` (43_rotate_shift_bit R306). -/
def exec_rrc_at_hl (s : State) : Result := rotate .rrc .atHl 4 s

/-- `RRC A` (43_rotate_shift_bit R306). -/
def exec_rrc_a (s : State) : Result := rotate .rrc (.reg .a) 2 s

/-- `RL B` (43_rotate_shift_bit R307). -/
def exec_rl_b (s : State) : Result := rotate .rl (.reg .b) 2 s

/-- `RL C` (43_rotate_shift_bit R307). -/
def exec_rl_c (s : State) : Result := rotate .rl (.reg .c) 2 s

/-- `RL D` (43_rotate_shift_bit R307). -/
def exec_rl_d (s : State) : Result := rotate .rl (.reg .d) 2 s

/-- `RL E` (43_rotate_shift_bit R307). -/
def exec_rl_e (s : State) : Result := rotate .rl (.reg .e) 2 s

/-- `RL H` (43_rotate_shift_bit R307). -/
def exec_rl_h (s : State) : Result := rotate .rl (.reg .h) 2 s

/-- `RL L` (43_rotate_shift_bit R307). -/
def exec_rl_l (s : State) : Result := rotate .rl (.reg .l) 2 s

/-- `RL (HL)` (43_rotate_shift_bit R307). -/
def exec_rl_at_hl (s : State) : Result := rotate .rl .atHl 4 s

/-- `RL A` (43_rotate_shift_bit R307). -/
def exec_rl_a (s : State) : Result := rotate .rl (.reg .a) 2 s

/-- `RR B` (43_rotate_shift_bit R308). -/
def exec_rr_b (s : State) : Result := rotate .rr (.reg .b) 2 s

/-- `RR C` (43_rotate_shift_bit R308). -/
def exec_rr_c (s : State) : Result := rotate .rr (.reg .c) 2 s

/-- `RR D` (43_rotate_shift_bit R308). -/
def exec_rr_d (s : State) : Result := rotate .rr (.reg .d) 2 s

/-- `RR E` (43_rotate_shift_bit R308). -/
def exec_rr_e (s : State) : Result := rotate .rr (.reg .e) 2 s

/-- `RR H` (43_rotate_shift_bit R308). -/
def exec_rr_h (s : State) : Result := rotate .rr (.reg .h) 2 s

/-- `RR L` (43_rotate_shift_bit R308). -/
def exec_rr_l (s : State) : Result := rotate .rr (.reg .l) 2 s

/-- `RR (HL)` (43_rotate_shift_bit R308). -/
def exec_rr_at_hl (s : State) : Result := rotate .rr .atHl 4 s

/-- `RR A` (43_rotate_shift_bit R308). -/
def exec_rr_a (s : State) : Result := rotate .rr (.reg .a) 2 s

/-- `SLA B` (43_rotate_shift_bit R309). -/
def exec_sla_b (s : State) : Result := rotate .sla (.reg .b) 2 s

/-- `SLA C` (43_rotate_shift_bit R309). -/
def exec_sla_c (s : State) : Result := rotate .sla (.reg .c) 2 s

/-- `SLA D` (43_rotate_shift_bit R309). -/
def exec_sla_d (s : State) : Result := rotate .sla (.reg .d) 2 s

/-- `SLA E` (43_rotate_shift_bit R309). -/
def exec_sla_e (s : State) : Result := rotate .sla (.reg .e) 2 s

/-- `SLA H` (43_rotate_shift_bit R309). -/
def exec_sla_h (s : State) : Result := rotate .sla (.reg .h) 2 s

/-- `SLA L` (43_rotate_shift_bit R309). -/
def exec_sla_l (s : State) : Result := rotate .sla (.reg .l) 2 s

/-- `SLA (HL)` (43_rotate_shift_bit R309). -/
def exec_sla_at_hl (s : State) : Result := rotate .sla .atHl 4 s

/-- `SLA A` (43_rotate_shift_bit R309). -/
def exec_sla_a (s : State) : Result := rotate .sla (.reg .a) 2 s

/-- `SRA B` (43_rotate_shift_bit R310). -/
def exec_sra_b (s : State) : Result := rotate .sra (.reg .b) 2 s

/-- `SRA C` (43_rotate_shift_bit R310). -/
def exec_sra_c (s : State) : Result := rotate .sra (.reg .c) 2 s

/-- `SRA D` (43_rotate_shift_bit R310). -/
def exec_sra_d (s : State) : Result := rotate .sra (.reg .d) 2 s

/-- `SRA E` (43_rotate_shift_bit R310). -/
def exec_sra_e (s : State) : Result := rotate .sra (.reg .e) 2 s

/-- `SRA H` (43_rotate_shift_bit R310). -/
def exec_sra_h (s : State) : Result := rotate .sra (.reg .h) 2 s

/-- `SRA L` (43_rotate_shift_bit R310). -/
def exec_sra_l (s : State) : Result := rotate .sra (.reg .l) 2 s

/-- `SRA (HL)` (43_rotate_shift_bit R310). -/
def exec_sra_at_hl (s : State) : Result := rotate .sra .atHl 4 s

/-- `SRA A` (43_rotate_shift_bit R310). -/
def exec_sra_a (s : State) : Result := rotate .sra (.reg .a) 2 s

/-- `SWAP B` (43_rotate_shift_bit R311). -/
def exec_swap_b (s : State) : Result := rotate .swap (.reg .b) 2 s

/-- `SWAP C` (43_rotate_shift_bit R311). -/
def exec_swap_c (s : State) : Result := rotate .swap (.reg .c) 2 s

/-- `SWAP D` (43_rotate_shift_bit R311). -/
def exec_swap_d (s : State) : Result := rotate .swap (.reg .d) 2 s

/-- `SWAP E` (43_rotate_shift_bit R311). -/
def exec_swap_e (s : State) : Result := rotate .swap (.reg .e) 2 s

/-- `SWAP H` (43_rotate_shift_bit R311). -/
def exec_swap_h (s : State) : Result := rotate .swap (.reg .h) 2 s

/-- `SWAP L` (43_rotate_shift_bit R311). -/
def exec_swap_l (s : State) : Result := rotate .swap (.reg .l) 2 s

/-- `SWAP (HL)` (43_rotate_shift_bit R311). -/
def exec_swap_at_hl (s : State) : Result := rotate .swap .atHl 4 s

/-- `SWAP A` (43_rotate_shift_bit R311). -/
def exec_swap_a (s : State) : Result := rotate .swap (.reg .a) 2 s

/-- `SRL B` (43_rotate_shift_bit R312). -/
def exec_srl_b (s : State) : Result := rotate .srl (.reg .b) 2 s

/-- `SRL C` (43_rotate_shift_bit R312). -/
def exec_srl_c (s : State) : Result := rotate .srl (.reg .c) 2 s

/-- `SRL D` (43_rotate_shift_bit R312). -/
def exec_srl_d (s : State) : Result := rotate .srl (.reg .d) 2 s

/-- `SRL E` (43_rotate_shift_bit R312). -/
def exec_srl_e (s : State) : Result := rotate .srl (.reg .e) 2 s

/-- `SRL H` (43_rotate_shift_bit R312). -/
def exec_srl_h (s : State) : Result := rotate .srl (.reg .h) 2 s

/-- `SRL L` (43_rotate_shift_bit R312). -/
def exec_srl_l (s : State) : Result := rotate .srl (.reg .l) 2 s

/-- `SRL (HL)` (43_rotate_shift_bit R312). -/
def exec_srl_at_hl (s : State) : Result := rotate .srl .atHl 4 s

/-- `SRL A` (43_rotate_shift_bit R312). -/
def exec_srl_a (s : State) : Result := rotate .srl (.reg .a) 2 s

/-- `BIT 0, B` (43_rotate_shift_bit R313). -/
def exec_bit_0_b (s : State) : Result := testBit .b0 (.reg .b) 2 s

/-- `BIT 0, C` (43_rotate_shift_bit R313). -/
def exec_bit_0_c (s : State) : Result := testBit .b0 (.reg .c) 2 s

/-- `BIT 0, D` (43_rotate_shift_bit R313). -/
def exec_bit_0_d (s : State) : Result := testBit .b0 (.reg .d) 2 s

/-- `BIT 0, E` (43_rotate_shift_bit R313). -/
def exec_bit_0_e (s : State) : Result := testBit .b0 (.reg .e) 2 s

/-- `BIT 0, H` (43_rotate_shift_bit R313). -/
def exec_bit_0_h (s : State) : Result := testBit .b0 (.reg .h) 2 s

/-- `BIT 0, L` (43_rotate_shift_bit R313). -/
def exec_bit_0_l (s : State) : Result := testBit .b0 (.reg .l) 2 s

/-- `BIT 0, (HL)` (43_rotate_shift_bit R313). -/
def exec_bit_0_at_hl (s : State) : Result := testBit .b0 .atHl 3 s

/-- `BIT 0, A` (43_rotate_shift_bit R313). -/
def exec_bit_0_a (s : State) : Result := testBit .b0 (.reg .a) 2 s

/-- `BIT 1, B` (43_rotate_shift_bit R313). -/
def exec_bit_1_b (s : State) : Result := testBit .b1 (.reg .b) 2 s

/-- `BIT 1, C` (43_rotate_shift_bit R313). -/
def exec_bit_1_c (s : State) : Result := testBit .b1 (.reg .c) 2 s

/-- `BIT 1, D` (43_rotate_shift_bit R313). -/
def exec_bit_1_d (s : State) : Result := testBit .b1 (.reg .d) 2 s

/-- `BIT 1, E` (43_rotate_shift_bit R313). -/
def exec_bit_1_e (s : State) : Result := testBit .b1 (.reg .e) 2 s

/-- `BIT 1, H` (43_rotate_shift_bit R313). -/
def exec_bit_1_h (s : State) : Result := testBit .b1 (.reg .h) 2 s

/-- `BIT 1, L` (43_rotate_shift_bit R313). -/
def exec_bit_1_l (s : State) : Result := testBit .b1 (.reg .l) 2 s

/-- `BIT 1, (HL)` (43_rotate_shift_bit R313). -/
def exec_bit_1_at_hl (s : State) : Result := testBit .b1 .atHl 3 s

/-- `BIT 1, A` (43_rotate_shift_bit R313). -/
def exec_bit_1_a (s : State) : Result := testBit .b1 (.reg .a) 2 s

/-- `BIT 2, B` (43_rotate_shift_bit R313). -/
def exec_bit_2_b (s : State) : Result := testBit .b2 (.reg .b) 2 s

/-- `BIT 2, C` (43_rotate_shift_bit R313). -/
def exec_bit_2_c (s : State) : Result := testBit .b2 (.reg .c) 2 s

/-- `BIT 2, D` (43_rotate_shift_bit R313). -/
def exec_bit_2_d (s : State) : Result := testBit .b2 (.reg .d) 2 s

/-- `BIT 2, E` (43_rotate_shift_bit R313). -/
def exec_bit_2_e (s : State) : Result := testBit .b2 (.reg .e) 2 s

/-- `BIT 2, H` (43_rotate_shift_bit R313). -/
def exec_bit_2_h (s : State) : Result := testBit .b2 (.reg .h) 2 s

/-- `BIT 2, L` (43_rotate_shift_bit R313). -/
def exec_bit_2_l (s : State) : Result := testBit .b2 (.reg .l) 2 s

/-- `BIT 2, (HL)` (43_rotate_shift_bit R313). -/
def exec_bit_2_at_hl (s : State) : Result := testBit .b2 .atHl 3 s

/-- `BIT 2, A` (43_rotate_shift_bit R313). -/
def exec_bit_2_a (s : State) : Result := testBit .b2 (.reg .a) 2 s

/-- `BIT 3, B` (43_rotate_shift_bit R313). -/
def exec_bit_3_b (s : State) : Result := testBit .b3 (.reg .b) 2 s

/-- `BIT 3, C` (43_rotate_shift_bit R313). -/
def exec_bit_3_c (s : State) : Result := testBit .b3 (.reg .c) 2 s

/-- `BIT 3, D` (43_rotate_shift_bit R313). -/
def exec_bit_3_d (s : State) : Result := testBit .b3 (.reg .d) 2 s

/-- `BIT 3, E` (43_rotate_shift_bit R313). -/
def exec_bit_3_e (s : State) : Result := testBit .b3 (.reg .e) 2 s

/-- `BIT 3, H` (43_rotate_shift_bit R313). -/
def exec_bit_3_h (s : State) : Result := testBit .b3 (.reg .h) 2 s

/-- `BIT 3, L` (43_rotate_shift_bit R313). -/
def exec_bit_3_l (s : State) : Result := testBit .b3 (.reg .l) 2 s

/-- `BIT 3, (HL)` (43_rotate_shift_bit R313). -/
def exec_bit_3_at_hl (s : State) : Result := testBit .b3 .atHl 3 s

/-- `BIT 3, A` (43_rotate_shift_bit R313). -/
def exec_bit_3_a (s : State) : Result := testBit .b3 (.reg .a) 2 s

/-- `BIT 4, B` (43_rotate_shift_bit R313). -/
def exec_bit_4_b (s : State) : Result := testBit .b4 (.reg .b) 2 s

/-- `BIT 4, C` (43_rotate_shift_bit R313). -/
def exec_bit_4_c (s : State) : Result := testBit .b4 (.reg .c) 2 s

/-- `BIT 4, D` (43_rotate_shift_bit R313). -/
def exec_bit_4_d (s : State) : Result := testBit .b4 (.reg .d) 2 s

/-- `BIT 4, E` (43_rotate_shift_bit R313). -/
def exec_bit_4_e (s : State) : Result := testBit .b4 (.reg .e) 2 s

/-- `BIT 4, H` (43_rotate_shift_bit R313). -/
def exec_bit_4_h (s : State) : Result := testBit .b4 (.reg .h) 2 s

/-- `BIT 4, L` (43_rotate_shift_bit R313). -/
def exec_bit_4_l (s : State) : Result := testBit .b4 (.reg .l) 2 s

/-- `BIT 4, (HL)` (43_rotate_shift_bit R313). -/
def exec_bit_4_at_hl (s : State) : Result := testBit .b4 .atHl 3 s

/-- `BIT 4, A` (43_rotate_shift_bit R313). -/
def exec_bit_4_a (s : State) : Result := testBit .b4 (.reg .a) 2 s

/-- `BIT 5, B` (43_rotate_shift_bit R313). -/
def exec_bit_5_b (s : State) : Result := testBit .b5 (.reg .b) 2 s

/-- `BIT 5, C` (43_rotate_shift_bit R313). -/
def exec_bit_5_c (s : State) : Result := testBit .b5 (.reg .c) 2 s

/-- `BIT 5, D` (43_rotate_shift_bit R313). -/
def exec_bit_5_d (s : State) : Result := testBit .b5 (.reg .d) 2 s

/-- `BIT 5, E` (43_rotate_shift_bit R313). -/
def exec_bit_5_e (s : State) : Result := testBit .b5 (.reg .e) 2 s

/-- `BIT 5, H` (43_rotate_shift_bit R313). -/
def exec_bit_5_h (s : State) : Result := testBit .b5 (.reg .h) 2 s

/-- `BIT 5, L` (43_rotate_shift_bit R313). -/
def exec_bit_5_l (s : State) : Result := testBit .b5 (.reg .l) 2 s

/-- `BIT 5, (HL)` (43_rotate_shift_bit R313). -/
def exec_bit_5_at_hl (s : State) : Result := testBit .b5 .atHl 3 s

/-- `BIT 5, A` (43_rotate_shift_bit R313). -/
def exec_bit_5_a (s : State) : Result := testBit .b5 (.reg .a) 2 s

/-- `BIT 6, B` (43_rotate_shift_bit R313). -/
def exec_bit_6_b (s : State) : Result := testBit .b6 (.reg .b) 2 s

/-- `BIT 6, C` (43_rotate_shift_bit R313). -/
def exec_bit_6_c (s : State) : Result := testBit .b6 (.reg .c) 2 s

/-- `BIT 6, D` (43_rotate_shift_bit R313). -/
def exec_bit_6_d (s : State) : Result := testBit .b6 (.reg .d) 2 s

/-- `BIT 6, E` (43_rotate_shift_bit R313). -/
def exec_bit_6_e (s : State) : Result := testBit .b6 (.reg .e) 2 s

/-- `BIT 6, H` (43_rotate_shift_bit R313). -/
def exec_bit_6_h (s : State) : Result := testBit .b6 (.reg .h) 2 s

/-- `BIT 6, L` (43_rotate_shift_bit R313). -/
def exec_bit_6_l (s : State) : Result := testBit .b6 (.reg .l) 2 s

/-- `BIT 6, (HL)` (43_rotate_shift_bit R313). -/
def exec_bit_6_at_hl (s : State) : Result := testBit .b6 .atHl 3 s

/-- `BIT 6, A` (43_rotate_shift_bit R313). -/
def exec_bit_6_a (s : State) : Result := testBit .b6 (.reg .a) 2 s

/-- `BIT 7, B` (43_rotate_shift_bit R313). -/
def exec_bit_7_b (s : State) : Result := testBit .b7 (.reg .b) 2 s

/-- `BIT 7, C` (43_rotate_shift_bit R313). -/
def exec_bit_7_c (s : State) : Result := testBit .b7 (.reg .c) 2 s

/-- `BIT 7, D` (43_rotate_shift_bit R313). -/
def exec_bit_7_d (s : State) : Result := testBit .b7 (.reg .d) 2 s

/-- `BIT 7, E` (43_rotate_shift_bit R313). -/
def exec_bit_7_e (s : State) : Result := testBit .b7 (.reg .e) 2 s

/-- `BIT 7, H` (43_rotate_shift_bit R313). -/
def exec_bit_7_h (s : State) : Result := testBit .b7 (.reg .h) 2 s

/-- `BIT 7, L` (43_rotate_shift_bit R313). -/
def exec_bit_7_l (s : State) : Result := testBit .b7 (.reg .l) 2 s

/-- `BIT 7, (HL)` (43_rotate_shift_bit R313). -/
def exec_bit_7_at_hl (s : State) : Result := testBit .b7 .atHl 3 s

/-- `BIT 7, A` (43_rotate_shift_bit R313). -/
def exec_bit_7_a (s : State) : Result := testBit .b7 (.reg .a) 2 s

/-- `RES 0, B` (43_rotate_shift_bit R314). -/
def exec_res_0_b (s : State) : Result := resetBit .b0 (.reg .b) 2 s

/-- `RES 0, C` (43_rotate_shift_bit R314). -/
def exec_res_0_c (s : State) : Result := resetBit .b0 (.reg .c) 2 s

/-- `RES 0, D` (43_rotate_shift_bit R314). -/
def exec_res_0_d (s : State) : Result := resetBit .b0 (.reg .d) 2 s

/-- `RES 0, E` (43_rotate_shift_bit R314). -/
def exec_res_0_e (s : State) : Result := resetBit .b0 (.reg .e) 2 s

/-- `RES 0, H` (43_rotate_shift_bit R314). -/
def exec_res_0_h (s : State) : Result := resetBit .b0 (.reg .h) 2 s

/-- `RES 0, L` (43_rotate_shift_bit R314). -/
def exec_res_0_l (s : State) : Result := resetBit .b0 (.reg .l) 2 s

/-- `RES 0, (HL)` (43_rotate_shift_bit R314). -/
def exec_res_0_at_hl (s : State) : Result := resetBit .b0 .atHl 4 s

/-- `RES 0, A` (43_rotate_shift_bit R314). -/
def exec_res_0_a (s : State) : Result := resetBit .b0 (.reg .a) 2 s

/-- `RES 1, B` (43_rotate_shift_bit R314). -/
def exec_res_1_b (s : State) : Result := resetBit .b1 (.reg .b) 2 s

/-- `RES 1, C` (43_rotate_shift_bit R314). -/
def exec_res_1_c (s : State) : Result := resetBit .b1 (.reg .c) 2 s

/-- `RES 1, D` (43_rotate_shift_bit R314). -/
def exec_res_1_d (s : State) : Result := resetBit .b1 (.reg .d) 2 s

/-- `RES 1, E` (43_rotate_shift_bit R314). -/
def exec_res_1_e (s : State) : Result := resetBit .b1 (.reg .e) 2 s

/-- `RES 1, H` (43_rotate_shift_bit R314). -/
def exec_res_1_h (s : State) : Result := resetBit .b1 (.reg .h) 2 s

/-- `RES 1, L` (43_rotate_shift_bit R314). -/
def exec_res_1_l (s : State) : Result := resetBit .b1 (.reg .l) 2 s

/-- `RES 1, (HL)` (43_rotate_shift_bit R314). -/
def exec_res_1_at_hl (s : State) : Result := resetBit .b1 .atHl 4 s

/-- `RES 1, A` (43_rotate_shift_bit R314). -/
def exec_res_1_a (s : State) : Result := resetBit .b1 (.reg .a) 2 s

/-- `RES 2, B` (43_rotate_shift_bit R314). -/
def exec_res_2_b (s : State) : Result := resetBit .b2 (.reg .b) 2 s

/-- `RES 2, C` (43_rotate_shift_bit R314). -/
def exec_res_2_c (s : State) : Result := resetBit .b2 (.reg .c) 2 s

/-- `RES 2, D` (43_rotate_shift_bit R314). -/
def exec_res_2_d (s : State) : Result := resetBit .b2 (.reg .d) 2 s

/-- `RES 2, E` (43_rotate_shift_bit R314). -/
def exec_res_2_e (s : State) : Result := resetBit .b2 (.reg .e) 2 s

/-- `RES 2, H` (43_rotate_shift_bit R314). -/
def exec_res_2_h (s : State) : Result := resetBit .b2 (.reg .h) 2 s

/-- `RES 2, L` (43_rotate_shift_bit R314). -/
def exec_res_2_l (s : State) : Result := resetBit .b2 (.reg .l) 2 s

/-- `RES 2, (HL)` (43_rotate_shift_bit R314). -/
def exec_res_2_at_hl (s : State) : Result := resetBit .b2 .atHl 4 s

/-- `RES 2, A` (43_rotate_shift_bit R314). -/
def exec_res_2_a (s : State) : Result := resetBit .b2 (.reg .a) 2 s

/-- `RES 3, B` (43_rotate_shift_bit R314). -/
def exec_res_3_b (s : State) : Result := resetBit .b3 (.reg .b) 2 s

/-- `RES 3, C` (43_rotate_shift_bit R314). -/
def exec_res_3_c (s : State) : Result := resetBit .b3 (.reg .c) 2 s

/-- `RES 3, D` (43_rotate_shift_bit R314). -/
def exec_res_3_d (s : State) : Result := resetBit .b3 (.reg .d) 2 s

/-- `RES 3, E` (43_rotate_shift_bit R314). -/
def exec_res_3_e (s : State) : Result := resetBit .b3 (.reg .e) 2 s

/-- `RES 3, H` (43_rotate_shift_bit R314). -/
def exec_res_3_h (s : State) : Result := resetBit .b3 (.reg .h) 2 s

/-- `RES 3, L` (43_rotate_shift_bit R314). -/
def exec_res_3_l (s : State) : Result := resetBit .b3 (.reg .l) 2 s

/-- `RES 3, (HL)` (43_rotate_shift_bit R314). -/
def exec_res_3_at_hl (s : State) : Result := resetBit .b3 .atHl 4 s

/-- `RES 3, A` (43_rotate_shift_bit R314). -/
def exec_res_3_a (s : State) : Result := resetBit .b3 (.reg .a) 2 s

/-- `RES 4, B` (43_rotate_shift_bit R314). -/
def exec_res_4_b (s : State) : Result := resetBit .b4 (.reg .b) 2 s

/-- `RES 4, C` (43_rotate_shift_bit R314). -/
def exec_res_4_c (s : State) : Result := resetBit .b4 (.reg .c) 2 s

/-- `RES 4, D` (43_rotate_shift_bit R314). -/
def exec_res_4_d (s : State) : Result := resetBit .b4 (.reg .d) 2 s

/-- `RES 4, E` (43_rotate_shift_bit R314). -/
def exec_res_4_e (s : State) : Result := resetBit .b4 (.reg .e) 2 s

/-- `RES 4, H` (43_rotate_shift_bit R314). -/
def exec_res_4_h (s : State) : Result := resetBit .b4 (.reg .h) 2 s

/-- `RES 4, L` (43_rotate_shift_bit R314). -/
def exec_res_4_l (s : State) : Result := resetBit .b4 (.reg .l) 2 s

/-- `RES 4, (HL)` (43_rotate_shift_bit R314). -/
def exec_res_4_at_hl (s : State) : Result := resetBit .b4 .atHl 4 s

/-- `RES 4, A` (43_rotate_shift_bit R314). -/
def exec_res_4_a (s : State) : Result := resetBit .b4 (.reg .a) 2 s

/-- `RES 5, B` (43_rotate_shift_bit R314). -/
def exec_res_5_b (s : State) : Result := resetBit .b5 (.reg .b) 2 s

/-- `RES 5, C` (43_rotate_shift_bit R314). -/
def exec_res_5_c (s : State) : Result := resetBit .b5 (.reg .c) 2 s

/-- `RES 5, D` (43_rotate_shift_bit R314). -/
def exec_res_5_d (s : State) : Result := resetBit .b5 (.reg .d) 2 s

/-- `RES 5, E` (43_rotate_shift_bit R314). -/
def exec_res_5_e (s : State) : Result := resetBit .b5 (.reg .e) 2 s

/-- `RES 5, H` (43_rotate_shift_bit R314). -/
def exec_res_5_h (s : State) : Result := resetBit .b5 (.reg .h) 2 s

/-- `RES 5, L` (43_rotate_shift_bit R314). -/
def exec_res_5_l (s : State) : Result := resetBit .b5 (.reg .l) 2 s

/-- `RES 5, (HL)` (43_rotate_shift_bit R314). -/
def exec_res_5_at_hl (s : State) : Result := resetBit .b5 .atHl 4 s

/-- `RES 5, A` (43_rotate_shift_bit R314). -/
def exec_res_5_a (s : State) : Result := resetBit .b5 (.reg .a) 2 s

/-- `RES 6, B` (43_rotate_shift_bit R314). -/
def exec_res_6_b (s : State) : Result := resetBit .b6 (.reg .b) 2 s

/-- `RES 6, C` (43_rotate_shift_bit R314). -/
def exec_res_6_c (s : State) : Result := resetBit .b6 (.reg .c) 2 s

/-- `RES 6, D` (43_rotate_shift_bit R314). -/
def exec_res_6_d (s : State) : Result := resetBit .b6 (.reg .d) 2 s

/-- `RES 6, E` (43_rotate_shift_bit R314). -/
def exec_res_6_e (s : State) : Result := resetBit .b6 (.reg .e) 2 s

/-- `RES 6, H` (43_rotate_shift_bit R314). -/
def exec_res_6_h (s : State) : Result := resetBit .b6 (.reg .h) 2 s

/-- `RES 6, L` (43_rotate_shift_bit R314). -/
def exec_res_6_l (s : State) : Result := resetBit .b6 (.reg .l) 2 s

/-- `RES 6, (HL)` (43_rotate_shift_bit R314). -/
def exec_res_6_at_hl (s : State) : Result := resetBit .b6 .atHl 4 s

/-- `RES 6, A` (43_rotate_shift_bit R314). -/
def exec_res_6_a (s : State) : Result := resetBit .b6 (.reg .a) 2 s

/-- `RES 7, B` (43_rotate_shift_bit R314). -/
def exec_res_7_b (s : State) : Result := resetBit .b7 (.reg .b) 2 s

/-- `RES 7, C` (43_rotate_shift_bit R314). -/
def exec_res_7_c (s : State) : Result := resetBit .b7 (.reg .c) 2 s

/-- `RES 7, D` (43_rotate_shift_bit R314). -/
def exec_res_7_d (s : State) : Result := resetBit .b7 (.reg .d) 2 s

/-- `RES 7, E` (43_rotate_shift_bit R314). -/
def exec_res_7_e (s : State) : Result := resetBit .b7 (.reg .e) 2 s

/-- `RES 7, H` (43_rotate_shift_bit R314). -/
def exec_res_7_h (s : State) : Result := resetBit .b7 (.reg .h) 2 s

/-- `RES 7, L` (43_rotate_shift_bit R314). -/
def exec_res_7_l (s : State) : Result := resetBit .b7 (.reg .l) 2 s

/-- `RES 7, (HL)` (43_rotate_shift_bit R314). -/
def exec_res_7_at_hl (s : State) : Result := resetBit .b7 .atHl 4 s

/-- `RES 7, A` (43_rotate_shift_bit R314). -/
def exec_res_7_a (s : State) : Result := resetBit .b7 (.reg .a) 2 s

/-- `SET 0, B` (43_rotate_shift_bit R315). -/
def exec_set_0_b (s : State) : Result := setBit .b0 (.reg .b) 2 s

/-- `SET 0, C` (43_rotate_shift_bit R315). -/
def exec_set_0_c (s : State) : Result := setBit .b0 (.reg .c) 2 s

/-- `SET 0, D` (43_rotate_shift_bit R315). -/
def exec_set_0_d (s : State) : Result := setBit .b0 (.reg .d) 2 s

/-- `SET 0, E` (43_rotate_shift_bit R315). -/
def exec_set_0_e (s : State) : Result := setBit .b0 (.reg .e) 2 s

/-- `SET 0, H` (43_rotate_shift_bit R315). -/
def exec_set_0_h (s : State) : Result := setBit .b0 (.reg .h) 2 s

/-- `SET 0, L` (43_rotate_shift_bit R315). -/
def exec_set_0_l (s : State) : Result := setBit .b0 (.reg .l) 2 s

/-- `SET 0, (HL)` (43_rotate_shift_bit R315). -/
def exec_set_0_at_hl (s : State) : Result := setBit .b0 .atHl 4 s

/-- `SET 0, A` (43_rotate_shift_bit R315). -/
def exec_set_0_a (s : State) : Result := setBit .b0 (.reg .a) 2 s

/-- `SET 1, B` (43_rotate_shift_bit R315). -/
def exec_set_1_b (s : State) : Result := setBit .b1 (.reg .b) 2 s

/-- `SET 1, C` (43_rotate_shift_bit R315). -/
def exec_set_1_c (s : State) : Result := setBit .b1 (.reg .c) 2 s

/-- `SET 1, D` (43_rotate_shift_bit R315). -/
def exec_set_1_d (s : State) : Result := setBit .b1 (.reg .d) 2 s

/-- `SET 1, E` (43_rotate_shift_bit R315). -/
def exec_set_1_e (s : State) : Result := setBit .b1 (.reg .e) 2 s

/-- `SET 1, H` (43_rotate_shift_bit R315). -/
def exec_set_1_h (s : State) : Result := setBit .b1 (.reg .h) 2 s

/-- `SET 1, L` (43_rotate_shift_bit R315). -/
def exec_set_1_l (s : State) : Result := setBit .b1 (.reg .l) 2 s

/-- `SET 1, (HL)` (43_rotate_shift_bit R315). -/
def exec_set_1_at_hl (s : State) : Result := setBit .b1 .atHl 4 s

/-- `SET 1, A` (43_rotate_shift_bit R315). -/
def exec_set_1_a (s : State) : Result := setBit .b1 (.reg .a) 2 s

/-- `SET 2, B` (43_rotate_shift_bit R315). -/
def exec_set_2_b (s : State) : Result := setBit .b2 (.reg .b) 2 s

/-- `SET 2, C` (43_rotate_shift_bit R315). -/
def exec_set_2_c (s : State) : Result := setBit .b2 (.reg .c) 2 s

/-- `SET 2, D` (43_rotate_shift_bit R315). -/
def exec_set_2_d (s : State) : Result := setBit .b2 (.reg .d) 2 s

/-- `SET 2, E` (43_rotate_shift_bit R315). -/
def exec_set_2_e (s : State) : Result := setBit .b2 (.reg .e) 2 s

/-- `SET 2, H` (43_rotate_shift_bit R315). -/
def exec_set_2_h (s : State) : Result := setBit .b2 (.reg .h) 2 s

/-- `SET 2, L` (43_rotate_shift_bit R315). -/
def exec_set_2_l (s : State) : Result := setBit .b2 (.reg .l) 2 s

/-- `SET 2, (HL)` (43_rotate_shift_bit R315). -/
def exec_set_2_at_hl (s : State) : Result := setBit .b2 .atHl 4 s

/-- `SET 2, A` (43_rotate_shift_bit R315). -/
def exec_set_2_a (s : State) : Result := setBit .b2 (.reg .a) 2 s

/-- `SET 3, B` (43_rotate_shift_bit R315). -/
def exec_set_3_b (s : State) : Result := setBit .b3 (.reg .b) 2 s

/-- `SET 3, C` (43_rotate_shift_bit R315). -/
def exec_set_3_c (s : State) : Result := setBit .b3 (.reg .c) 2 s

/-- `SET 3, D` (43_rotate_shift_bit R315). -/
def exec_set_3_d (s : State) : Result := setBit .b3 (.reg .d) 2 s

/-- `SET 3, E` (43_rotate_shift_bit R315). -/
def exec_set_3_e (s : State) : Result := setBit .b3 (.reg .e) 2 s

/-- `SET 3, H` (43_rotate_shift_bit R315). -/
def exec_set_3_h (s : State) : Result := setBit .b3 (.reg .h) 2 s

/-- `SET 3, L` (43_rotate_shift_bit R315). -/
def exec_set_3_l (s : State) : Result := setBit .b3 (.reg .l) 2 s

/-- `SET 3, (HL)` (43_rotate_shift_bit R315). -/
def exec_set_3_at_hl (s : State) : Result := setBit .b3 .atHl 4 s

/-- `SET 3, A` (43_rotate_shift_bit R315). -/
def exec_set_3_a (s : State) : Result := setBit .b3 (.reg .a) 2 s

/-- `SET 4, B` (43_rotate_shift_bit R315). -/
def exec_set_4_b (s : State) : Result := setBit .b4 (.reg .b) 2 s

/-- `SET 4, C` (43_rotate_shift_bit R315). -/
def exec_set_4_c (s : State) : Result := setBit .b4 (.reg .c) 2 s

/-- `SET 4, D` (43_rotate_shift_bit R315). -/
def exec_set_4_d (s : State) : Result := setBit .b4 (.reg .d) 2 s

/-- `SET 4, E` (43_rotate_shift_bit R315). -/
def exec_set_4_e (s : State) : Result := setBit .b4 (.reg .e) 2 s

/-- `SET 4, H` (43_rotate_shift_bit R315). -/
def exec_set_4_h (s : State) : Result := setBit .b4 (.reg .h) 2 s

/-- `SET 4, L` (43_rotate_shift_bit R315). -/
def exec_set_4_l (s : State) : Result := setBit .b4 (.reg .l) 2 s

/-- `SET 4, (HL)` (43_rotate_shift_bit R315). -/
def exec_set_4_at_hl (s : State) : Result := setBit .b4 .atHl 4 s

/-- `SET 4, A` (43_rotate_shift_bit R315). -/
def exec_set_4_a (s : State) : Result := setBit .b4 (.reg .a) 2 s

/-- `SET 5, B` (43_rotate_shift_bit R315). -/
def exec_set_5_b (s : State) : Result := setBit .b5 (.reg .b) 2 s

/-- `SET 5, C` (43_rotate_shift_bit R315). -/
def exec_set_5_c (s : State) : Result := setBit .b5 (.reg .c) 2 s

/-- `SET 5, D` (43_rotate_shift_bit R315). -/
def exec_set_5_d (s : State) : Result := setBit .b5 (.reg .d) 2 s

/-- `SET 5, E` (43_rotate_shift_bit R315). -/
def exec_set_5_e (s : State) : Result := setBit .b5 (.reg .e) 2 s

/-- `SET 5, H` (43_rotate_shift_bit R315). -/
def exec_set_5_h (s : State) : Result := setBit .b5 (.reg .h) 2 s

/-- `SET 5, L` (43_rotate_shift_bit R315). -/
def exec_set_5_l (s : State) : Result := setBit .b5 (.reg .l) 2 s

/-- `SET 5, (HL)` (43_rotate_shift_bit R315). -/
def exec_set_5_at_hl (s : State) : Result := setBit .b5 .atHl 4 s

/-- `SET 5, A` (43_rotate_shift_bit R315). -/
def exec_set_5_a (s : State) : Result := setBit .b5 (.reg .a) 2 s

/-- `SET 6, B` (43_rotate_shift_bit R315). -/
def exec_set_6_b (s : State) : Result := setBit .b6 (.reg .b) 2 s

/-- `SET 6, C` (43_rotate_shift_bit R315). -/
def exec_set_6_c (s : State) : Result := setBit .b6 (.reg .c) 2 s

/-- `SET 6, D` (43_rotate_shift_bit R315). -/
def exec_set_6_d (s : State) : Result := setBit .b6 (.reg .d) 2 s

/-- `SET 6, E` (43_rotate_shift_bit R315). -/
def exec_set_6_e (s : State) : Result := setBit .b6 (.reg .e) 2 s

/-- `SET 6, H` (43_rotate_shift_bit R315). -/
def exec_set_6_h (s : State) : Result := setBit .b6 (.reg .h) 2 s

/-- `SET 6, L` (43_rotate_shift_bit R315). -/
def exec_set_6_l (s : State) : Result := setBit .b6 (.reg .l) 2 s

/-- `SET 6, (HL)` (43_rotate_shift_bit R315). -/
def exec_set_6_at_hl (s : State) : Result := setBit .b6 .atHl 4 s

/-- `SET 6, A` (43_rotate_shift_bit R315). -/
def exec_set_6_a (s : State) : Result := setBit .b6 (.reg .a) 2 s

/-- `SET 7, B` (43_rotate_shift_bit R315). -/
def exec_set_7_b (s : State) : Result := setBit .b7 (.reg .b) 2 s

/-- `SET 7, C` (43_rotate_shift_bit R315). -/
def exec_set_7_c (s : State) : Result := setBit .b7 (.reg .c) 2 s

/-- `SET 7, D` (43_rotate_shift_bit R315). -/
def exec_set_7_d (s : State) : Result := setBit .b7 (.reg .d) 2 s

/-- `SET 7, E` (43_rotate_shift_bit R315). -/
def exec_set_7_e (s : State) : Result := setBit .b7 (.reg .e) 2 s

/-- `SET 7, H` (43_rotate_shift_bit R315). -/
def exec_set_7_h (s : State) : Result := setBit .b7 (.reg .h) 2 s

/-- `SET 7, L` (43_rotate_shift_bit R315). -/
def exec_set_7_l (s : State) : Result := setBit .b7 (.reg .l) 2 s

/-- `SET 7, (HL)` (43_rotate_shift_bit R315). -/
def exec_set_7_at_hl (s : State) : Result := setBit .b7 .atHl 4 s

/-- `SET 7, A` (43_rotate_shift_bit R315). -/
def exec_set_7_a (s : State) : Result := setBit .b7 (.reg .a) 2 s

end Sys2Proof.Machine
end

