-- ==== Sys2Proof/Machine/System.lean ====
section
/-! DEFINITION. System and control instructions (45_system R390-R398). None of them writes a flag. -/

namespace Sys2Proof.Machine

/-! ### Shared operations -/

/-- What the byte after the prefix does, by its fields (30_encoding R137, 43 R304-R315, 45_system R391). -/
def cbOpcode (c : Byte) (s : State) : Result :=
  let y := c.toNat / 8 % 8
  let o := operandOf (c.toNat % 8)
  let n := match o with
    | .reg _ => 2
    | .atHl => 4
  match c.toNat / 64 with
  | 0 => rotate (rotOf y) o n s
  | 1 => testBit (bitIndexOf y) o (if n = 4 then 3 else 2) s
  | 2 => resetBit (bitIndexOf y) o n s
  | _ => setBit (bitIndexOf y) o n s

/-- `HALT`: halt, or with `IME` = 0 and an interrupt pending the HALT bug, or nothing (45_system R392). -/
def halt (n : Nat) (s : State) : Result :=
  if s.cpu.ime || !interruptPending s then done n (onCpu (fun k => { k with mode := .halted }) s)
  else if s.cfg.haltBug then done n (onCpu (fun k => { k with haltBug := true }) s)
  else done n s

/-- `STOP`. The decoder has fetched the second byte (30_encoding R142, R143); in `refuse` mode the rule fetches only the
opcode, so the pc steps back over the second byte (45_system R394; log entry 10). -/
def stop (n : Nat) (s : State) : Result :=
  match s.cfg.stopMode with
  | .waitButton =>
    done n (onCpu (fun k => { k with mode := .stopped }) { s with timer := { s.timer with divCounter := 0 } })
  | .refuse =>
    let s := onCpu (fun k => { k with pc := k.pc - 1 }) s
    done n (raiseIllegal 0x10 (s.cpu.pc - 1) .refusedStop s)

/-- `DI` (45_system R396). -/
def disableInterrupts (n : Nat) (s : State) : Result :=
  done n (onCpu (fun k => { k with ime := false, eiDelay := 0 }) s)

/-- `EI`: the counter of 60_exceptions R427 sets `IME` later (45_system R397). -/
def enableInterrupts (n : Nat) (s : State) : Result := done n (onCpu (fun k => { k with eiDelay := 2 }) s)

/-- An undefined opcode: the report and the freeze, or a `NOP` (45_system R398). -/
def undefinedOpcode (op : Byte) (n : Nat) (s : State) : Result :=
  match s.cfg.illegalOpcodeMode with
  | .lock => done n (raiseIllegal op (s.cpu.pc - 1) .undefinedOpcode s)
  | .nop => done n s

/-! ### The instructions -/

/-- `STOP` (45_system R394). -/
def exec_stop (_n : Byte) (s : State) : Result := stop 1 s

/-- `CB prefix` (45_system R391). -/
def exec_cb_prefix (c : Byte) (s : State) : Result := cbOpcode c s

/-- `NOP` (45_system R390). -/
def exec_nop (s : State) : Result := done 1 s

/-- `HALT` (45_system R392). -/
def exec_halt (s : State) : Result := halt 1 s

/-- undefined opcode 0xD3 (45_system R398). -/
def exec_undefined_d3 (s : State) : Result := undefinedOpcode 0xD3 1 s

/-- undefined opcode 0xDB (45_system R398). -/
def exec_undefined_db (s : State) : Result := undefinedOpcode 0xDB 1 s

/-- undefined opcode 0xDD (45_system R398). -/
def exec_undefined_dd (s : State) : Result := undefinedOpcode 0xDD 1 s

/-- undefined opcode 0xE3 (45_system R398). -/
def exec_undefined_e3 (s : State) : Result := undefinedOpcode 0xE3 1 s

/-- undefined opcode 0xE4 (45_system R398). -/
def exec_undefined_e4 (s : State) : Result := undefinedOpcode 0xE4 1 s

/-- undefined opcode 0xEB (45_system R398). -/
def exec_undefined_eb (s : State) : Result := undefinedOpcode 0xEB 1 s

/-- undefined opcode 0xEC (45_system R398). -/
def exec_undefined_ec (s : State) : Result := undefinedOpcode 0xEC 1 s

/-- undefined opcode 0xED (45_system R398). -/
def exec_undefined_ed (s : State) : Result := undefinedOpcode 0xED 1 s

/-- `DI` (45_system R396). -/
def exec_di (s : State) : Result := disableInterrupts 1 s

/-- undefined opcode 0xF4 (45_system R398). -/
def exec_undefined_f4 (s : State) : Result := undefinedOpcode 0xF4 1 s

/-- `EI` (45_system R397). -/
def exec_ei (s : State) : Result := enableInterrupts 1 s

/-- undefined opcode 0xFC (45_system R398). -/
def exec_undefined_fc (s : State) : Result := undefinedOpcode 0xFC 1 s

/-- undefined opcode 0xFD (45_system R398). -/
def exec_undefined_fd (s : State) : Result := undefinedOpcode 0xFD 1 s

end Sys2Proof.Machine
end

