-- ==== Sys2Proof/Machine/Step.lean ====
section
/-! DEFINITION. The system step (64_scheduler R600): the host's events, one CPU step (60_exceptions R426), and the
devices for the M-cycles it returned. -/

namespace Sys2Proof.Machine

/-- One system step. -/
def step (s : State) : Host.Outcome State Fault Refusal :=
  match beginStep (hostPhase s) with
  | .over t => .next (runDevices t)
  | .fetch t =>
    match exec (fetchInstr t).1 (fetchInstr t).2 with
    | .next u => .next (runDevices (advanceEiDelay u))
    | .fault r => .fault r
    | .refused r => .refused r

/-- The instruction of a table row stored where the next step fetches it (log entry 15). -/
def State.withFetchWord (s : State) (nbits w : Nat) : State :=
  placeBytes (tableBytes nbits w) s.cpu.pc (readyToFetch s)

end Sys2Proof.Machine
end

