-- ==== Sys2Proof/Safety.lean ====
section
/-! DEFINITION. What counts as a good state, and the terms the statements use: the encoding codes, the writers of each
register and flag, the cycle grid, and which reads a bus write may change. Everything here is written from the spec's
tables, not from the meanings. -/

namespace Sys2Proof

/-! ### Codes and rows (30_encoding R132-R135) -/

/-- The register's code in the 8-bit operand field (30_encoding R132). -/
def Reg8.code : Reg8 → Nat
  | .b => 0
  | .c => 1
  | .d => 2
  | .e => 3
  | .h => 4
  | .l => 5
  | .a => 7

/-- The operand's code: "{B, C, D, E, H, L, (HL), A}" (30_encoding R132). -/
def Operand8.code : Operand8 → Nat
  | .reg r => r.code
  | .atHl => 6

/-- 00 BC, 01 DE, 10 HL, 11 SP (30_encoding R133). -/
def Pair.code : Pair → Nat
  | .bc => 0
  | .de => 1
  | .hl => 2
  | .sp => 3

/-- 00 BC, 01 DE, 10 HL, 11 AF (30_encoding R133). -/
def StackPair.code : StackPair → Nat
  | .bc => 0
  | .de => 1
  | .hl => 2
  | .af => 3

/-- 00 NZ, 01 Z, 10 NC, 11 C (30_encoding R134). -/
def Cond.code : Cond → Nat
  | .nz => 0
  | .z => 1
  | .nc => 2
  | .c => 3

/-- The ALU field (30_encoding R135). -/
def AluOp.code : AluOp → Nat
  | .add => 0
  | .adc => 1
  | .sub => 2
  | .sbc => 3
  | .and => 4
  | .xor => 5
  | .or => 6
  | .cp => 7

/-- The operation of the first CB group, "0x00–0x07 are RLC, 0x08–0x0F RRC" and so on (30_encoding R137). -/
def RotOp.code : RotOp → Nat
  | .rlc => 0
  | .rrc => 1
  | .rl => 2
  | .rr => 3
  | .sla => 4
  | .sra => 5
  | .swap => 6
  | .srl => 7

/-- A byte of an encoding. -/
def byteOf (n : Nat) : Byte := BitVec.ofNat 8 n

/-- The ALU instruction of an operation and a source form (41_alu8 R230). -/
def aluInstr (op : AluOp) : Source8 → Instr
  | .op o => instrAlu op o
  | .imm n => instrAluImm op n

/-- Its bytes: `10 yyy zzz`, or `11 yyy 110` and the immediate (41_alu8 R230). -/
def aluBytes (op : AluOp) : Source8 → List Byte
  | .op o => [byteOf (0x80 + 8 * op.code + o.code)]
  | .imm n => [byteOf (0xC6 + 8 * op.code), n]

/-- The M-cycles of a source form: register 1, `(HL)` 2, immediate 2 (41_alu8 R230). -/
def Source8.cycles : Source8 → Nat
  | .op (.reg _) => 1
  | .op .atHl => 2
  | .imm _ => 2

/-- The M-cycles of an operand form, register or `(HL)` (43 R304). -/
def Operand8.cycles (register atHl : Nat) : Operand8 → Nat
  | .reg _ => register
  | .atHl => atHl

/-- The load into `A` of an addressing mode (40_loads R175-R188). -/
def loadAInstr : Addressing → Instr
  | .atBc => .ld_a_at_bc
  | .atDe => .ld_a_at_de
  | .absolute nn => .ld_a_at_nn nn
  | .ioPage n => .ldh_a_at_n n
  | .ioC => .ld_a_at_c
  | .hlInc => .ld_a_at_hli
  | .hlDec => .ld_a_at_hld

/-- The store of `A` of an addressing mode (40_loads R175-R188). -/
def storeAInstr : Addressing → Instr
  | .atBc => .ld_at_bc_a
  | .atDe => .ld_at_de_a
  | .absolute nn => .ld_at_nn_a nn
  | .ioPage n => .ldh_at_n_a n
  | .ioC => .ld_at_c_a
  | .hlInc => .ld_at_hli_a
  | .hlDec => .ld_at_hld_a

/-- The M-cycles of an accumulator load or store (40_loads R175-R188). -/
def Addressing.cycles : Addressing → Nat
  | .atBc => 2
  | .atDe => 2
  | .absolute _ => 4
  | .ioPage _ => 3
  | .ioC => 2
  | .hlInc => 2
  | .hlDec => 2

/-- The eleven undefined bytes with their rows (30_encoding R140). -/
def undefinedRows : List (Byte × Instr) :=
  [(0xD3, .undefined_d3), (0xDB, .undefined_db), (0xDD, .undefined_dd), (0xE3, .undefined_e3), (0xE4, .undefined_e4),
   (0xEB, .undefined_eb), (0xEC, .undefined_ec), (0xED, .undefined_ed), (0xF4, .undefined_f4), (0xFC, .undefined_fc),
   (0xFD, .undefined_fd)]

/-! ### Who writes what, by the bytes of an instruction (10_state R20, R25) -/

/-- What an instruction does to one flag, as a letter of the table's `flags_ZNHC` (30_encoding, introduction). -/
inductive FlagEffect where
  | keep | zero | one | result
  deriving DecidableEq, Repr

/-- The four letters of one row, in the order Z, N, H, C. -/
structure FlagRow where
  z : FlagEffect
  n : FlagEffect
  h : FlagEffect
  c : FlagEffect
  deriving DecidableEq, Repr

/-- No flag written: "loads, INC/DEC rr, jumps, NOP, DI, EI, HALT, STOP, RES, SET, PUSH" (10_state R25). -/
def FlagRow.none : FlagRow := ⟨.keep, .keep, .keep, .keep⟩

/-- The rows of the ALU operations (41_alu8 R231-R238). -/
def FlagRow.alu (y : Nat) : FlagRow :=
  if y = 0 ∨ y = 1 then ⟨.result, .zero, .result, .result⟩
  else if y = 2 ∨ y = 3 ∨ y = 7 then ⟨.result, .one, .result, .result⟩
  else if y = 4 then ⟨.result, .zero, .one, .zero⟩
  else ⟨.result, .zero, .zero, .zero⟩

/-- The row of an instruction's bytes (10_state R25 and the rules of 41_alu8, 42_alu16, 43). -/
def flagRow : List Byte → FlagRow
  | [] => .none
  | op :: rest =>
    let y := op.toNat / 8 % 8
    let z := op.toNat % 8
    if op = 0xCB then
      let c := (rest.headD 0).toNat
      if c / 64 = 0 then (if c / 8 = 6 then ⟨.result, .zero, .zero, .zero⟩ else ⟨.result, .zero, .zero, .result⟩)
      else if c / 64 = 1 then ⟨.result, .zero, .one, .keep⟩
      else .none
    else if op.toNat / 64 = 2 then .alu y
    else if op.toNat / 64 = 3 ∧ z = 6 then .alu y
    else if op.toNat / 64 = 0 ∧ z = 4 then ⟨.result, .zero, .result, .keep⟩
    else if op.toNat / 64 = 0 ∧ z = 5 then ⟨.result, .one, .result, .keep⟩
    else if op ∈ [0x09, 0x19, 0x29, 0x39] then ⟨.keep, .zero, .result, .result⟩
    else if op ∈ [0x07, 0x0F, 0x17, 0x1F] then ⟨.zero, .zero, .zero, .result⟩
    else if op = 0x27 then ⟨.result, .keep, .zero, .result⟩
    else if op = 0x2F then ⟨.keep, .one, .one, .keep⟩
    else if op = 0x37 then ⟨.keep, .zero, .zero, .one⟩
    else if op = 0x3F then ⟨.keep, .zero, .zero, .result⟩
    else if op = 0xE8 ∨ op = 0xF8 then ⟨.zero, .zero, .result, .result⟩
    else if op = 0xF1 then ⟨.result, .result, .result, .result⟩
    else .none

/-- What a letter says of one flag's old and new value. -/
def FlagEffect.Holds (w : FlagEffect) (old new : Bool) : Prop :=
  match w with
  | .keep => new = old
  | .zero => new = false
  | .one => new = true
  | .result => True

/-- Whether pair number `p` contains the register (10_state R21). -/
def pairHas (p : Nat) (r : Reg8) : Bool := r != .a && r.code / 2 == p

/-- Whether an instruction of these bytes may write an 8-bit register (10_state R20, column "written by"). -/
def writesReg8 (bytes : List Byte) (r : Reg8) : Bool :=
  match bytes with
  | [] => false
  | op :: rest =>
    let x := op.toNat / 64
    let y := op.toNat / 8 % 8
    let z := op.toNat % 8
    let p := op.toNat / 16 % 4
    if op = 0xCB then (rest.headD 0).toNat / 64 != 1 && (rest.headD 0).toNat % 8 == r.code
    else if x = 0 then
      (z == 4 || z == 5 || z == 6) && y == r.code
        || (op.toNat % 16 == 1 || z == 3) && pairHas p r
        || op.toNat % 16 == 9 && (r == .h || r == .l)
        || op.toNat % 16 == 10 && r == .a
        || (op == 0x22 || op == 0x2A || op == 0x32 || op == 0x3A) && (r == .h || r == .l)
        || (op == 0x07 || op == 0x0F || op == 0x17 || op == 0x1F || op == 0x27 || op == 0x2F) && r == .a
    else if x = 1 then op != 0x76 && y == r.code
    else if x = 2 then y != 7 && r == .a
    else
      z == 6 && y != 7 && r == .a
        || op.toNat % 16 == 1 && pairHas p r
        || (op == 0xF0 || op == 0xF1 || op == 0xF2 || op == 0xFA) && r == .a
        || op == 0xF8 && (r == .h || r == .l)

/-- The first bytes of the instructions that write `SP`: "LD SP,nn, LD SP,HL, INC/DEC SP, ADD SP,e, PUSH, POP, CALL,
RST, RET, RETI" (10_state R20). -/
def spWriters : List Byte :=
  [0x31, 0xF9, 0x33, 0x3B, 0xE8, 0xC5, 0xD5, 0xE5, 0xF5, 0xC1, 0xD1, 0xE1, 0xF1, 0xCD, 0xC4, 0xCC, 0xD4, 0xDC, 0xC7,
   0xCF, 0xD7, 0xDF, 0xE7, 0xEF, 0xF7, 0xFF, 0xC9, 0xD9, 0xC0, 0xC8, 0xD0, 0xD8]

/-- The first bytes of the instructions that write the pc after the fetch: jumps, calls, returns, RST (10_state R23,
44_control R351-R361). -/
def pcWriters : List Byte :=
  [0x18, 0x20, 0x28, 0x30, 0x38, 0xC3, 0xC2, 0xCA, 0xD2, 0xDA, 0xE9, 0xCD, 0xC4, 0xCC, 0xD4, 0xDC, 0xC9, 0xD9, 0xC0,
   0xC8, 0xD0, 0xD8, 0xC7, 0xCF, 0xD7, 0xDF, 0xE7, 0xEF, 0xF7, 0xFF]

/-! ### The cycle grid (70_reset_and_hazards R650) -/

/-- The base table, with the taken count of a conditional; the prefix's entry is 0. -/
def cycleGrid : List (List Nat) :=
  [[1, 3, 2, 2, 1, 1, 2, 1, 5, 2, 2, 2, 1, 1, 2, 1],
   [1, 3, 2, 2, 1, 1, 2, 1, 3, 2, 2, 2, 1, 1, 2, 1],
   [3, 3, 2, 2, 1, 1, 2, 1, 3, 2, 2, 2, 1, 1, 2, 1],
   [3, 3, 2, 2, 3, 3, 3, 1, 3, 2, 2, 2, 1, 1, 2, 1],
   [1, 1, 1, 1, 1, 1, 2, 1, 1, 1, 1, 1, 1, 1, 2, 1],
   [1, 1, 1, 1, 1, 1, 2, 1, 1, 1, 1, 1, 1, 1, 2, 1],
   [1, 1, 1, 1, 1, 1, 2, 1, 1, 1, 1, 1, 1, 1, 2, 1],
   [2, 2, 2, 2, 2, 2, 1, 2, 1, 1, 1, 1, 1, 1, 2, 1],
   [1, 1, 1, 1, 1, 1, 2, 1, 1, 1, 1, 1, 1, 1, 2, 1],
   [1, 1, 1, 1, 1, 1, 2, 1, 1, 1, 1, 1, 1, 1, 2, 1],
   [1, 1, 1, 1, 1, 1, 2, 1, 1, 1, 1, 1, 1, 1, 2, 1],
   [1, 1, 1, 1, 1, 1, 2, 1, 1, 1, 1, 1, 1, 1, 2, 1],
   [5, 3, 4, 4, 6, 4, 2, 4, 5, 4, 4, 0, 6, 6, 2, 4],
   [5, 3, 4, 1, 6, 4, 2, 4, 5, 4, 4, 1, 6, 1, 2, 4],
   [3, 3, 2, 1, 1, 4, 2, 4, 4, 1, 4, 1, 1, 1, 2, 4],
   [3, 3, 2, 1, 1, 4, 2, 4, 3, 2, 4, 1, 1, 1, 2, 4]]

/-- The conditional opcodes with their not-taken counts. -/
def notTakenCycles : List (Byte × Nat) :=
  [(0x20, 2), (0x28, 2), (0x30, 2), (0x38, 2), (0xC0, 2), (0xC8, 2), (0xD0, 2), (0xD8, 2), (0xC2, 3), (0xCA, 3),
   (0xD2, 3), (0xDA, 3), (0xC4, 3), (0xCC, 3), (0xD4, 3), (0xDC, 3)]

/-- The M-cycles of an instruction of these bytes, started with these flags. -/
def cyclesOf (bytes : List Byte) (f : Machine.Flags) : Nat :=
  match bytes with
  | [] => 0
  | op :: rest =>
    if op = 0xCB then
      let c := (rest.headD 0).toNat
      if c % 8 = 6 then (if c / 64 = 1 then 3 else 4) else 2
    else
      match notTakenCycles.find? (fun p => p.1 == op) with
      | some p => if f.holds (condOf (op.toNat / 8 % 4)) then (cycleGrid.getD (op.toNat / 16) []).getD (op.toNat % 16) 0
                  else p.2
      | none => (cycleGrid.getD (op.toNat / 16) []).getD (op.toNat % 16) 0

namespace Machine

/-! ### Reads and writes of the bus -/

/-- Reads of the audio registers are free values (10_state R51; log entry 8). -/
def AudioAddr (a : Word) : Prop := 0xFF10 ≤ a.toNat ∧ a.toNat ≤ 0xFF3F

/-- Plain storage, which every write reaches: VRAM, WRAM, its echo and HRAM (20_memory R85, R87, R88, R92), and no timed
transfer in the way (R105). -/
def PlainStorage (s : State) (a : Word) : Prop :=
  regionOf a ∈ [Region.vram, Region.wram, Region.echo, Region.hram] ∧ dmaGated s a = false

/-- The bytes an instruction stores to, in the order of its stores, by the address expressions of 40_loads R169,
43 R304, 00_scope R14. -/
def storeAddresses (i : Instr) (s : State) : List Word :=
  let stack := [s.cpu.sp - 1, s.cpu.sp - 2]
  match encode i with
  | [op] =>
    if op ∈ [0x70, 0x71, 0x72, 0x73, 0x74, 0x75, 0x77, 0x34, 0x35, 0x22, 0x32] then [s.cpu.hl]
    else if op = 0x02 then [s.cpu.bc]
    else if op = 0x12 then [s.cpu.de]
    else if op = 0xE2 then [word 0xFF s.cpu.c]
    else if op ∈ [0xC5, 0xD5, 0xE5, 0xF5, 0xC7, 0xCF, 0xD7, 0xDF, 0xE7, 0xEF, 0xF7, 0xFF] then stack
    else []
  | [op, n] =>
    if op = 0xCB then (if n.toNat % 8 = 6 ∧ n.toNat / 64 ≠ 1 then [s.cpu.hl] else [])
    else if op = 0x36 then [s.cpu.hl]
    else if op = 0xE0 then [word 0xFF n]
    else []
  | [op, lo, hi] =>
    if op = 0x08 then [word hi lo, word hi lo + 1]
    else if op = 0xEA then [word hi lo]
    else if op = 0xCD then stack
    else if op ∈ [0xC4, 0xCC, 0xD4, 0xDC] ∧ s.cpu.f.holds (condOf (op.toNat / 8 % 4)) then stack
    else []
  | _ => []

/-- The addresses whose read a bus write to `w` may change: the storage byte itself under each of its names (20_memory
R88), the cartridge as a whole (R86), and the side effects of 20_memory R98 and 63_ppu R545. -/
def writeReaches (cfg : Params) (w a : Word) : Bool :=
  match regionOf w with
  | .bootPage => regionOf a ∈ [Region.bootPage, Region.cartRom, Region.cartRam]
  | .cartRom => regionOf a ∈ [Region.bootPage, Region.cartRom, Region.cartRam]
  | .cartRam => regionOf a ∈ [Region.bootPage, Region.cartRom, Region.cartRam]
  | .unusable => false
  | .vram => cellOf a == cellOf w
  | .wram => cellOf a == cellOf w
  | .echo => cellOf a == cellOf w
  | .oam => cellOf a == cellOf w
  | .hram => cellOf a == cellOf w
  | .ie => a == 0xFFFF
  | .io =>
    match ioRegOf w with
    | .p1 => a == 0xFF00 || a == 0xFF0F
    | .sc => a == 0xFF01 || a == 0xFF02 || a == 0xFF0F
    | .tac => a == 0xFF05 || a == 0xFF07
    | .lcdc => a == 0xFF40 || a == 0xFF41 || a == 0xFF44
    | .dma =>
      match cfg.dmaMode with
      | .instant => a == 0xFF46 || regionOf a == .oam
      | .timed => regionOf a != .hram
    | .boot => regionOf a == .bootPage
    | .ly => false
    | .audio => false
    | .unmapped => false
    | _ => a == w

/-! ### Fetching -/

/-- The byte a fetch `n` bytes further on reads. -/
def codeByte (s : State) (n : Nat) : Byte :=
  let t := onCpu (fun k => { k with pc := k.pc + BitVec.ofNat 16 n }) s
  memRead t t.cpu.pc

/-! ### The devices' M-cycles (64_scheduler R600, R601) -/

/-- `DeviceMCycle()`: four PPU ticks and the timer unless the CPU is stopped, then the timed DMA (64_scheduler R601). -/
def deviceOrder (s : State) : State :=
  dmaMCycle (if s.cpu.mode = .stopped then s else timerMCycle (ppuTick (ppuTick (ppuTick (ppuTick s)))))

/-- The state `n` device M-cycles after `u`: "repeat n times: DeviceMCycle()" (64_scheduler R600). -/
def devicesAfter (u : State) : Nat → State
  | 0 => u
  | n + 1 => deviceOrder (devicesAfter u n)

/-- `u` is what the CPU step of 60_exceptions R426 leaves from `s`, its count in `elapsed`: a step that is over without
an instruction, or the fetched instruction's effect and the `EI` counter's advance. -/
def CpuStepLeaves (s u : State) : Prop :=
  beginStep s = .over u ∨
    ∃ b v, beginStep s = .fetch b ∧ exec (fetchInstr b).1 (fetchInstr b).2 = .next v ∧ u = advanceEiDelay v

/-! ### Rotates and shifts as numbers (43 R300-R312) -/

/-- The result of a rotate or shift of the number `v` below 256, with carry `c` of 0 or 1. -/
def rotateValue (op : RotOp) (v c : Nat) : Nat :=
  match op with
  | .rlc => 2 * v % 256 + v / 128
  | .rrc => v / 2 + 128 * (v % 2)
  | .rl => 2 * v % 256 + c
  | .rr => v / 2 + 128 * c
  | .sla => 2 * v % 256
  | .sra => v / 2 + 128 * (v / 128)
  | .swap => v % 16 * 16 + v / 16
  | .srl => v / 2

/-- The bit moved out: bit 7 to the left, bit 0 to the right, none by `SWAP`. -/
def rotateOut (op : RotOp) (v : Nat) : Bool :=
  match op with
  | .rlc => v / 128 == 1
  | .rl => v / 128 == 1
  | .sla => v / 128 == 1
  | .rrc => v % 2 == 1
  | .rr => v % 2 == 1
  | .sra => v % 2 == 1
  | .srl => v % 2 == 1
  | .swap => false

/-! ### The scanline table (63_ppu R531) -/

/-- The mode at a line and a dot. -/
def modeAt (ly dot : Nat) : PpuMode :=
  if 144 ≤ ly then .vblank else if dot < 80 then .oamScan else if dot < 252 then .drawing else .hblank

/-- The T-cycles since line 0, dot 0 of the frame. -/
def Ppu.position (p : Ppu) : Nat := p.ly.toNat * 456 + p.dot

/-- The PPU runs and stands where the table says (63_ppu R531, R533). -/
structure Ppu.OnTrack (p : Ppu) : Prop where
  lcdOn : p.lcdc.getLsbD 7 = true
  ly_le : p.ly.toNat ≤ 153
  dot_lt : p.dot < 456
  mode_eq : p.mode = modeAt p.ly.toNat p.dot

/-! ### Good states -/

/-- An address of `State.mem` that something is stored under: cartridge, VRAM, WRAM, OAM, HRAM (20_memory R81). -/
def StorageCell (k : Nat) : Prop := k < 0xE000 ∨ (0xFE00 ≤ k ∧ k ≤ 0xFE9F) ∨ (0xFF80 ≤ k ∧ k ≤ 0xFFFE)

/-- The invariant of the machine. -/
structure State.Inv (s : State) : Prop where
  /-- Memory is in its canonical form. -/
  mem_wf : s.mem.wf
  /-- Only storage addresses have a cell: echo, I/O and `IE` are not stored there (20_memory R81, R88). -/
  mem_storage : ∀ c ∈ s.mem, StorageCell c.1
  /-- The boot ROM is in canonical form. -/
  boot_wf : Memory.wf s.cfg.bootRom
  /-- `LY` stays in 0..153 (63_ppu R533). -/
  ly_le : s.ppu.ly.toNat ≤ 153
  /-- The line counter stays in 0..455 (10_state R53). -/
  dot_lt : s.ppu.dot < 456
  /-- With the LCD on, the mode is that of the scanline table (63_ppu R531). -/
  mode_on : s.ppu.lcdc.getLsbD 7 = true → s.ppu.mode = modeAt s.ppu.ly.toNat s.ppu.dot
  /-- With the LCD off, `LY`, dot and mode are 0 (63_ppu R545). -/
  mode_off : s.ppu.lcdc.getLsbD 7 = false → s.ppu.ly = 0 ∧ s.ppu.dot = 0 ∧ s.ppu.mode = .hblank
  /-- The framebuffer is in canonical form: lines below 144, 160 shades each (63_ppu R560). -/
  fb_wf : s.ppu.fb.wf
  /-- Only a timed transfer is ever in progress, with bytes left to copy (10_state R54, 20_memory R102). -/
  dma_active : s.dma.active = true → s.cfg.dmaMode = .timed ∧ s.dma.index < 160
  /-- The HALT bug waits only in a running CPU, and only where it is modelled (10_state R29, 45_system R392). -/
  halt_bug : s.cpu.haltBug = true → s.cpu.mode = .running ∧ s.cfg.haltBug = true
  /-- `IllegalOpcode` was reported exactly when the CPU is locked (60_exceptions R425). -/
  locked : s.diagnostic.isSome = true ↔ s.cpu.mode = .locked
  /-- No exchange with the internal clock is left in progress (62_serial_joypad R501). -/
  serial_done : s.serial.transfer = true → s.serial.internalClock = false

end Machine

end Sys2Proof
end

