-- ==== Sys2Proof/Certificates/Slice0/Obligations.lean ====
section
/-! DEFINITION. The statements about the model. Each docstring names the rules it formalises; where a clause rests on a
choice of the model's own, it names the log entry. A statement about a free value (an audio register, a cartridge written
to, an attached serial device) holds whatever the value. -/

open Sys2Proof Sys2Proof.Machine

/-! ### Encoding -/

/-- Decoding the bytes of a complete instruction, followed by any others, gives the instruction and leaves the others
(30_encoding R130-R143). -/
def Obligations.EncodeThenDecode : Prop :=
  ∀ (i : Instr) (rest : List Byte), i.wellFormed = true → decode (encode i ++ rest) = .ok (i, rest)

/-- Whatever decodes is the encoding of what it decodes to: no byte is dropped or read twice, each byte string has one
meaning, and the first byte alone gives the length (30_encoding R130, R143). -/
def Obligations.DecodeThenEncode : Prop :=
  ∀ (op : Byte) (more rest : List Byte) (i : Instr), decode (op :: more) = .ok (i, rest) →
    i.wellFormed = true ∧ op :: more = encode i ++ rest ∧ (encode i).length = instrLength op

/-- Words the spec writes out, read as it reads them: `00`, `06 42`, `3E 00`, `CA 00 02` (30_encoding), and the examples
of 40_loads, 41_alu8, 42_alu16, 43, 44_control and 45_system. -/
def Obligations.SpecWordsDecode : Prop :=
  decode [0x00] = .ok (.nop, []) ∧ decode [0x06, 0x42] = .ok (.ld_b_n 0x42, []) ∧
  decode [0x3E, 0x00] = .ok (.ld_a_n 0x00, []) ∧ decode [0xCA, 0x00, 0x02] = .ok (.jp_z_nn 0x0200, []) ∧
  decode [0x31, 0xFE, 0xFF] = .ok (.ld_sp_nn 0xFFFE, []) ∧ decode [0x08, 0x00, 0xC1] = .ok (.ld_at_nn_sp 0xC100, []) ∧
  decode [0xE0, 0x46] = .ok (.ldh_at_n_a 0x46, []) ∧ decode [0x8B] = .ok (.adc_a_e, []) ∧
  decode [0x9C] = .ok (.sbc_a_h, []) ∧ decode [0xE8, 0x02] = .ok (.add_sp_e 0x02, []) ∧
  decode [0xCB, 0x15] = .ok (.rl_l, []) ∧ decode [0xCB, 0xFE] = .ok (.set_7_at_hl, []) ∧
  decode [0x20, 0xFE] = .ok (.jr_nz_e 0xFE, []) ∧ decode [0xCD, 0x00, 0x20] = .ok (.call_nn 0x2000, []) ∧
  decode [0xEF] = .ok (.rst_28, []) ∧ decode [0x10, 0x00] = .ok (.stop 0x00, []) ∧
  decode [0xD3] = .ok (.undefined_d3, [])

/-- 30_encoding R140: the eleven bytes and no others are undefined, each by itself one byte long. -/
def Obligations.UndefinedOpcodes : Prop :=
  undefinedRows.map Prod.fst = [0xD3, 0xDB, 0xDD, 0xE3, 0xE4, 0xEB, 0xEC, 0xED, 0xF4, 0xFC, 0xFD] ∧
  (∀ p ∈ undefinedRows, ∀ rest : List Byte, decode (p.1 :: rest) = .ok (p.2, rest)) ∧
  (∀ op b1 b2 : Byte, op ∉ undefinedRows.map Prod.fst → decodeBytes op b1 b2 ∉ undefinedRows.map Prod.snd)

/-- 45_system R391: the prefix and its second byte are one instruction, the CB row of the second byte, which completes
with the CB row's effect and count; the table's own row for the prefix runs that row (log entry 11). -/
def Obligations.PrefixRunsCbRow : Prop :=
  ∀ (c : Byte) (rest : List Byte) (s : State),
    decode (0xCB :: c :: rest) = .ok (decodeCb c, rest) ∧ encode (decodeCb c) = [0xCB, c] ∧
    ∃ t, exec (.cb_prefix c) s = .next t ∧ exec (decodeCb c) s = .next t

/-! ### The step -/

/-- A step runs the instruction decoded at the pc, with the pc past it: after the host's events, with the CPU running or
woken from HALT, no interrupt to take and no HALT bug (60_exceptions R426, 64_scheduler R600). -/
def Obligations.StepRunsDecodedInstruction : Prop :=
  ∀ (s t : State) (i : Instr) (rest : List Byte), t = hostPhase s →
    t.cpu.mode = .running ∨ (t.cpu.mode = .halted ∧ interruptPending t = true) →
    ¬(interruptPending t = true ∧ t.cpu.ime = true) → t.cpu.haltBug = false →
    decode [codeByte t 0, codeByte t 1, codeByte t 2] = .ok (i, rest) →
    step s =
      match exec i (onCpu (fun k => { k with mode := .running, pc := k.pc + BitVec.ofNat 16 (encode i).length }) t) with
      | .next u => .next (runDevices (advanceEiDelay u))
      | .fault r => .fault r
      | .refused r => .refused r

/-- 45_system R393: under the HALT bug the opcode is fetched without moving the pc, the bit is cleared, and the bytes
after the opcode are fetched from the opcode's own address on. -/
def Obligations.HaltBugRepeatsOpcode : Prop :=
  ∀ (s t u : State) (i : Instr) (rest : List Byte), t = hostPhase s → t.cpu.mode = .running →
    ¬(interruptPending t = true ∧ t.cpu.ime = true) → t.cpu.haltBug = true →
    u = onCpu (fun k => { k with haltBug := false }) t →
    decode [memRead t t.cpu.pc, codeByte u 0, codeByte u 1] = .ok (i, rest) →
    step s =
      match exec i (onCpu (fun k => { k with pc := k.pc + BitVec.ofNat 16 ((encode i).length - 1) }) u) with
      | .next v => .next (runDevices (advanceEiDelay v))
      | .fault r => .fault r
      | .refused r => .refused r

/-- 60_exceptions R429, 64_scheduler R601, R602: a step in mode locked, stopped, or halted with nothing pending takes one
M-cycle, leaves the CPU alone, and runs the devices in order: four PPU ticks, the timer, the timed DMA; when stopped only
the DMA. -/
def Obligations.IdleStep : Prop :=
  ∀ (s t d : State), t = { hostPhase s with elapsed := 1 } →
    t.cpu.mode = .locked ∨ t.cpu.mode = .stopped ∨ (t.cpu.mode = .halted ∧ interruptPending t = false) →
    d = dmaMCycle (if t.cpu.mode = .stopped then t
      else timerMCycle (ppuTick (ppuTick (ppuTick (ppuTick t))))) →
    step s = .next { d with cycles := s.cycles + 4 } ∧ d.cpu = t.cpu ∧
      (t.cpu.mode = .stopped → d.ppu = t.ppu ∧ d.timer = t.timer ∧ d.irq = t.irq)

/-- 60_exceptions R430: `ServiceInterrupt`. The pc (one less under the HALT bug) is pushed, `IME` is cleared, and the
pending set read after the push decides: its lowest bit `k` is cleared in `IF` and the pc is `0x0040 + 8k`; if the push
has emptied it, the pc is 0. Nothing else of the CPU changes but `SP`, the mode and the halt-bug bit. -/
def Obligations.InterruptDispatch : Prop :=
  ∀ (s t p : State), t = hostPhase s → t.cpu.mode = .running ∨ t.cpu.mode = .halted →
    interruptPending t = true → t.cpu.ime = true →
    p = push16 (if t.cpu.haltBug then t.cpu.pc - 1 else t.cpu.pc)
      (onCpu (fun k => { k with mode := .running, haltBug := false }) t) →
    (∀ k : Nat, k < 5 → (p.irq.flag &&& p.irq.enable).getLsbD k = true →
      (∀ j : Nat, j < k → (p.irq.flag &&& p.irq.enable).getLsbD j = false) →
      step s = .next (runDevices
        { p with
          cpu := { p.cpu with ime := false, pc := BitVec.ofNat 16 (0x0040 + 8 * k) }
          irq := { p.irq with flag := p.irq.flag &&& ~~~(1#5 <<< k) }
          elapsed := 5 })) ∧
    (p.irq.flag &&& p.irq.enable = 0 →
      step s = .next (runDevices { p with cpu := { p.cpu with ime := false, pc := 0x0000 }, elapsed := 5 }))

/-- 60_exceptions R427: the delayed `EI` counter. A step that executes an instruction other than `EI` and `DI` takes the
counter from 2 to 1 and from 1 to 0 with `IME` set; `EI` leaves 1 and `IME` as it was; `DI` leaves 0 and `IME` cleared;
any other step leaves the counter. -/
def Obligations.EiDelayCounter : Prop :=
  ∀ (s t : State), step s = .next t →
    (∀ u, beginStep (hostPhase s) = .over u → t.cpu.eiDelay = s.cpu.eiDelay) ∧
    (∀ u, beginStep (hostPhase s) = .fetch u →
      let i := (fetchInstr u).1
      (i = .ei → t.cpu.eiDelay = 1 ∧ t.cpu.ime = s.cpu.ime) ∧
      (i = .di → t.cpu.eiDelay = 0 ∧ t.cpu.ime = false) ∧
      (i ≠ .ei → i ≠ .di → s.cpu.eiDelay = 1 → t.cpu.eiDelay = 0 ∧ t.cpu.ime = true) ∧
      (i ≠ .ei → i ≠ .di → s.cpu.eiDelay = 2 → t.cpu.eiDelay = 1) ∧
      (i ≠ .ei → i ≠ .di → s.cpu.eiDelay = 0 → t.cpu.eiDelay = 0) ∧
      (i ≠ .ei → i ≠ .di → s.cpu.eiDelay ≠ 1 → t.cpu.ime = if i = .reti then true else s.cpu.ime))

/-! ### The invariant and reset -/

/-- Every step keeps the invariant (20_memory R81, R88, 63_ppu R531, R533, R545, 20_memory R102, 10_state R29,
60_exceptions R425, 62_serial_joypad R501). -/
def Obligations.StepKeepsInvariant : Prop := ∀ s t : State, State.Inv s → step s = .next t → State.Inv t

/-- The reset state meets the invariant, under every value of the parameters. The values reset leaves unspecified are the
model's own (log entries 2 to 5). -/
def Obligations.ResetMeetsInvariant : Prop :=
  State.Inv State.reset ∧ ∀ p : Params, Memory.wf p.bootRom → State.Inv (State.resetWith p)

/-- 70_reset_and_hazards R630, with the I/O columns of 10_state R32: what both profiles leave, whatever the unspecified
values `u` are. -/
def Obligations.ResetProfiles : Prop :=
  ∀ (p : Params) (u : Draws),
    (p.resetProfile = .postBoot →
      let s := State.resetFrom p u
      s.cpu.pc = 0x0100 ∧ s.cpu.af = 0x01B0 ∧ s.cpu.bc = 0x0013 ∧ s.cpu.de = 0x00D8 ∧ s.cpu.hl = 0x014D ∧
      s.cpu.sp = 0xFFFE ∧ s.cpu.mode = .running ∧ s.cpu.ime = false ∧ s.cpu.eiDelay = 0 ∧ s.cpu.haltBug = false ∧
      s.bootDisabled = true ∧ s.timer.divCounter = p.postBootDivCounter ∧ s.timer.prevSample = false ∧
      s.timer.overflowPending = false ∧ s.ppu.mode = .oamScan ∧ s.ppu.ly = 0 ∧ s.ppu.dot = 0 ∧
      s.ppu.coincidence = true ∧ s.ppu.windowLine = 0 ∧ s.dma.active = false ∧
      s.joypad.buttons = Buttons.released ∧ s.cycles = 0 ∧ s.diagnostic = none ∧
      memRead s 0xFF00 = 0xCF ∧ memRead s 0xFF01 = 0x00 ∧ memRead s 0xFF02 = 0x7E ∧
      memRead s 0xFF04 = hiByte p.postBootDivCounter ∧ memRead s 0xFF05 = 0x00 ∧ memRead s 0xFF06 = 0x00 ∧
      memRead s 0xFF07 = 0xF8 ∧ s.irq.flag = 0x01 ∧ s.irq.enable = 0x00 ∧ memRead s 0xFF40 = 0x91 ∧
      memRead s 0xFF41 = 0x86 ∧ memRead s 0xFF42 = 0x00 ∧ memRead s 0xFF43 = 0x00 ∧ memRead s 0xFF44 = 0x00 ∧
      memRead s 0xFF45 = 0x00 ∧ memRead s 0xFF46 = 0xFF ∧ memRead s 0xFF47 = 0xFC ∧ memRead s 0xFF4A = 0x00 ∧
      memRead s 0xFF4B = 0x00) ∧
    (p.resetProfile = .bootRom →
      let s := State.resetFrom p u
      s.cpu.pc = 0x0000 ∧ s.cpu.mode = .running ∧ s.cpu.ime = false ∧ s.cpu.eiDelay = 0 ∧ s.cpu.haltBug = false ∧
      s.bootDisabled = false ∧ s.timer.prevSample = false ∧ s.timer.overflowPending = false ∧
      memRead s 0xFF40 = 0x00 ∧ s.ppu.mode = .hblank ∧ memRead s 0xFF44 = 0x00 ∧ s.ppu.dot = 0 ∧
      s.ppu.coincidence = decide (s.ppu.lyc = 0) ∧ s.ppu.windowLine = 0 ∧ s.dma.active = false ∧
      s.joypad.buttons = Buttons.released ∧ s.cycles = 0 ∧ s.diagnostic = none ∧
      (∀ a : Word, a.toNat ≤ 0x00FF → memRead s a = Memory.get p.bootRom a.toNat))

/-! ### Rules of the whole machine -/

/-- 10_state R25 and the opcode table's column `flags_ZNHC`: each flag is kept, cleared, set or computed as the row says,
for every instruction. -/
def Obligations.FlagsWrittenAsTheTableSays : Prop :=
  ∀ (i : Instr) (s t : State), exec i s = .next t →
    (flagRow (encode i)).z.Holds s.cpu.f.z t.cpu.f.z ∧ (flagRow (encode i)).n.Holds s.cpu.f.n t.cpu.f.n ∧
    (flagRow (encode i)).h.Holds s.cpu.f.h t.cpu.f.h ∧ (flagRow (encode i)).c.Holds s.cpu.f.c t.cpu.f.c

/-- 10_state R20, R23, R24: an instruction writes no 8-bit register, `SP` or pc but those its row names. A refused `STOP`
also steps the pc back (log entry 10). -/
def Obligations.RegistersWrittenAsTheTableSays : Prop :=
  ∀ (i : Instr) (s t : State), exec i s = .next t →
    (∀ r : Reg8, writesReg8 (encode i) r = false → t.cpu.reg8 r = s.cpu.reg8 r) ∧
    ((encode i).headD 0 ∉ spWriters → t.cpu.sp = s.cpu.sp) ∧
    ((encode i).headD 0 ∉ pcWriters → (s.cfg.stopMode = .waitButton ∨ (encode i).headD 0 ≠ 0x10) →
      t.cpu.pc = s.cpu.pc)

/-- 45_system R395, 10_state R27, R28, R29: among the instructions only `HALT`, `STOP` and the undefined opcodes change the
mode, only `DI` and `RETI` write `IME`, only `EI` and `DI` the EI counter, and only `HALT` the halt-bug bit. -/
def Obligations.ModeAndInterruptControlWriters : Prop :=
  ∀ (i : Instr) (s t : State), exec i s = .next t →
    (t.cpu.mode ≠ s.cpu.mode →
      (i = .halt ∧ t.cpu.mode = .halted) ∨
      (∃ n, i = .stop n ∧ t.cpu.mode = if s.cfg.stopMode = .waitButton then .stopped else .locked) ∨
      (i ∈ undefinedRows.map Prod.snd ∧ s.cfg.illegalOpcodeMode = .lock ∧ t.cpu.mode = .locked)) ∧
    t.cpu.ime = (if i = .di then false else if i = .reti then true else s.cpu.ime) ∧
    t.cpu.eiDelay = (if i = .ei then 2 else if i = .di then 0 else s.cpu.eiDelay) ∧
    (i ≠ .halt → t.cpu.haltBug = s.cpu.haltBug)

/-- 70_reset_and_hazards R650: every instruction completes from every state, with the count of the grid, the not-taken
count for a conditional whose condition fails. -/
def Obligations.InstructionsCompleteInTheirCycles : Prop :=
  ∀ (i : Instr) (s : State), ∃ t, exec i s = .next t ∧ t.elapsed = cyclesOf (encode i) s.cpu.f

/-- 60_exceptions R424, R426, 64_scheduler R600, R601, R603, 10_state R49, 20_memory R86, R106: every step goes on: its CPU
step takes `n` = 1 to 6 M-cycles, after which the devices run exactly `n` times, each time four PPU ticks and the timer
(neither when stopped) and then the timed DMA, and the master clock advances by `4n`. A step never changes the parameters
or the cartridge's contents, and never clears the boot latch. The cartridge's contents and its write history are the
model's form of its state (log entry 6), the count in `elapsed` (log entry 13) and the queue of host events (log entry 14)
likewise. -/
def Obligations.StepAlwaysGoesOn : Prop :=
  ∀ s : State, ∃ u t, CpuStepLeaves (hostPhase s) u ∧ step s = .next t ∧
    t = { devicesAfter u u.elapsed with cycles := s.cycles + 4 * u.elapsed } ∧ t.elapsed = u.elapsed ∧
    1 ≤ t.elapsed ∧ t.elapsed ≤ 6 ∧ t.cycles = s.cycles + 4 * t.elapsed ∧ t.cfg = s.cfg ∧ t.inputs = s.inputs.tail ∧
    (s.bootDisabled = true → t.bootDisabled = true) ∧ (∃ ws, t.cartWrites = ws ++ s.cartWrites) ∧
    ∀ k : Nat, k < 0x8000 ∨ (0xA000 ≤ k ∧ k < 0xC000) → t.mem.get k = s.mem.get k

/-! ### The bus -/

/-- The memory frame of every instruction: an address that none of its stores reaches reads as before (20_memory R82, R98,
R107). The addresses stored to are computed by the instruction's own address expression. `STOP` clears `DIV` besides
(45_system R394). The audio registers are free values. -/
def Obligations.StoresReachOnlyTheirAddresses : Prop :=
  ∀ (i : Instr) (s t : State) (a : Word), exec i s = .next t → ¬AudioAddr a →
    (∀ w ∈ storeAddresses i s, writeReaches s.cfg w a = false) → ((encode i).headD 0 = 0x10 → a ≠ 0xFF04) →
    memRead t a = memRead s a

/-- 20_memory R85, R87, R88, R92: plain storage reads back what was written, and an echo address and its WRAM address are
the same byte, both ways. -/
def Obligations.StorageReadsBack : Prop :=
  ∀ (s : State) (a : Word) (v : Byte), PlainStorage s a →
    memRead (memWrite a v s) a = v ∧
    (regionOf a = .echo → memRead (memWrite a v s) (a - 0x2000) = v) ∧
    (regionOf a = .wram → a.toNat ≤ 0xDDFF → memRead (memWrite a v s) (a + 0x2000) = v)

/-- 20_memory R89, R90: a CPU write to OAM is discarded exactly when the block is modelled, the LCD is on and the mode is 2
or 3, otherwise it is stored, and a read is never blocked; the unusable region reads 0xFF and discards writes. -/
def Obligations.OamAndUnusableRegion : Prop :=
  ∀ (s : State) (a : Word) (v : Byte),
    (0xFE00 ≤ a.toNat → a.toNat ≤ 0xFE9F → dmaGated s a = false →
      let blocked :=
        s.cfg.oamWriteBlock = true ∧ s.ppu.lcdc.getLsbD 7 = true ∧ (s.ppu.mode = .oamScan ∨ s.ppu.mode = .drawing)
      (blocked → memWrite a v s = s) ∧ (¬blocked → memRead (memWrite a v s) a = v) ∧
      memRead s a = s.mem.get a.toNat) ∧
    (0xFEA0 ≤ a.toNat → a.toNat ≤ 0xFEFF → memRead s a = 0xFF ∧ memWrite a v s = s)

/-- 10_state R33-R50, 62_serial_joypad R501, R502: what each I/O register and `IE` reads after a write of `v`, with no timed
transfer in the way before or after: the stored bits, the bits that read 1, and the read-only bits as they were. -/
def Obligations.IoRegistersReadBack : Prop :=
  ∀ (s : State) (v : Byte), s.dma.active = false →
    let wr (a : Word) : Byte := memRead (memWrite a v s) a
    let upper : Byte := if s.cfg.ifIeUpperRead = .ones then 0xE0 else 0x00
    wr 0xFF00 &&& 0xF0 = 0xC0 ||| (v &&& 0x30) ∧
    wr 0xFF01 = v ∧
    wr 0xFF02 = (if v &&& 0x81 = 0x81 then 0x7F else 0x7E ||| (v &&& 0x81)) ∧
    wr 0xFF04 = 0x00 ∧ wr 0xFF05 = v ∧ wr 0xFF06 = v ∧ wr 0xFF07 = 0xF8 ||| (v &&& 0x07) ∧
    wr 0xFF0F = upper ||| (v &&& 0x1F) ∧ wr 0xFFFF = upper ||| (v &&& 0x1F) ∧
    wr 0xFF40 = v ∧ wr 0xFF41 = 0x80 ||| (v &&& 0x78) ||| (memRead s 0xFF41 &&& 0x07) ∧
    wr 0xFF42 = v ∧ wr 0xFF43 = v ∧ wr 0xFF44 = memRead s 0xFF44 ∧ wr 0xFF45 = v ∧
    (s.cfg.dmaMode = .instant → wr 0xFF46 = v) ∧
    wr 0xFF47 = v ∧ wr 0xFF48 = v ∧ wr 0xFF49 = v ∧ wr 0xFF4A = v ∧ wr 0xFF4B = v ∧ wr 0xFF50 = 0xFF ∧
    (∀ a : Word, a = 0xFF03 ∨ (0xFF08 ≤ a.toNat ∧ a.toNat ≤ 0xFF0E) ∨ (0xFF4C ≤ a.toNat ∧ a.toNat ≤ 0xFF4F) ∨
      (0xFF51 ≤ a.toNat ∧ a.toNat ≤ 0xFF7F) → memRead s a = 0xFF ∧ memWrite a v s = s)

/-- 10_state R49, 20_memory R81-R84, R86: a non-zero write to 0xFF50 turns the overlay off for good, a write of 0 does
nothing; under the overlay 0x0000-0x00FF reads the boot ROM, and a write there goes to the cartridge all the same; in
0x0100-0x7FFF and 0xA000-0xBFFF reads and writes are the cartridge's, whatever the overlay. That the cartridge is its
contents until the first write to it, and that a write is recorded, newest first, is the model's form of it (log entry
6). -/
def Obligations.BootOverlay : Prop :=
  ∀ (s : State) (v : Byte), s.dma.active = false →
    (v ≠ 0 → memWrite 0xFF50 v s = { s with bootDisabled := true }) ∧ memWrite 0xFF50 0 s = s ∧
    (∀ a : Word, a.toNat ≤ 0x00FF →
      (s.bootDisabled = false → memRead s a = Memory.get s.cfg.bootRom a.toNat) ∧
      (s.bootDisabled = true → memRead s a = cartRead s a) ∧ memWrite a v s = cartWrite a v s) ∧
    (∀ a : Word, (0x0100 ≤ a.toNat ∧ a.toNat ≤ 0x7FFF) ∨ (0xA000 ≤ a.toNat ∧ a.toNat ≤ 0xBFFF) →
      memRead s a = cartRead s a ∧ memWrite a v s = cartWrite a v s) ∧
    (∀ a : Word, (s.cartWrites = [] → cartRead s a = s.mem.get a.toNat) ∧
      cartWrite a v s = { s with cartWrites := (a, v) :: s.cartWrites })

/-- 20_memory R100, R101, R103, R104: under `DMA_MODE = instant` a write of `V` to `DMA` copies all 160 bytes at once, from
`V << 8` on, whatever the PPU mode; it stores `V` and changes no other byte. That the source page 0xFF sees the new `V` at
0xFF46 is the model's reading (log entry 17). -/
def Obligations.InstantDmaCopies : Prop :=
  ∀ (s t : State) (v : Byte), s.cfg.dmaMode = .instant → t = memWrite 0xFF46 v s →
    t.dma.page = v ∧
    (∀ i : Nat, i < 160 → memRead t (0xFE00 + BitVec.ofNat 16 i) =
      busReadUngated { s with dma := { s.dma with page := v } } (word v 0 + BitVec.ofNat 16 i)) ∧
    (∀ k : Nat, k < 0xFE00 ∨ 0xFE9F < k → t.mem.get k = s.mem.get k) ∧
    t = { s with dma := { s.dma with page := v }, mem := t.mem }

/-- 20_memory R102, R105: under `DMA_MODE = timed` a write of `V` to `DMA` starts the engine, or starts it over while it
runs; each device M-cycle copies one byte and the 160th ends it; while it runs, a CPU access outside HRAM reads 0xFF or is
discarded, and HRAM is read and written as ever. That the write to 0xFF46, an access outside HRAM, gets past R105's
discard, as R102 and 92_eei_decisions D6 have it, while a read of 0xFF46 gives 0xFF, is the model's reading (log entry
16). -/
def Obligations.TimedDmaRuns : Prop :=
  ∀ (s : State), s.cfg.dmaMode = .timed →
    (∀ v : Byte,
      memWrite 0xFF46 v s = { s with dma := { page := v, active := true, source := word v 0, index := 0 } }) ∧
    (s.dma.active = true → s.dma.index < 160 →
      dmaMCycle s =
        { s with
          mem := s.mem.set (0xFE00 + s.dma.index) (busReadUngated s (s.dma.source + BitVec.ofNat 16 s.dma.index))
          dma := { s.dma with index := s.dma.index + 1, active := decide (s.dma.index < 159) } }) ∧
    (s.dma.active = false → dmaMCycle s = s) ∧
    (s.dma.active = true → ∀ (a : Word) (v : Byte), ¬(0xFF80 ≤ a.toNat ∧ a.toNat ≤ 0xFFFE) →
      memRead s a = 0xFF ∧ (a ≠ 0xFF46 → memWrite a v s = s)) ∧
    (s.dma.active = true → ∀ (a : Word) (v : Byte), 0xFF80 ≤ a.toNat → a.toNat ≤ 0xFFFE →
      memRead s a = s.mem.get a.toNat ∧ memRead (memWrite a v s) a = v)

/-! ### Registers and the stack -/

/-- 10_state R21, R22: a pair is high:low and shares its halves' storage; `F` reads with its low nibble 0 and a write
discards it. -/
def Obligations.PairsShareStorage : Prop :=
  ∀ (k : Cpu) (v : Word) (w : Byte),
    k.bc.toNat = 256 * k.b.toNat + k.c.toNat ∧ k.de.toNat = 256 * k.d.toNat + k.e.toNat ∧
    k.hl.toNat = 256 * k.h.toNat + k.l.toNat ∧
    k.af.toNat = 256 * k.a.toNat + 128 * k.f.z.toNat + 64 * k.f.n.toNat + 32 * k.f.h.toNat + 16 * k.f.c.toNat ∧
    (k.setBc v).bc = v ∧ (k.setDe v).de = v ∧ (k.setHl v).hl = v ∧ (k.setAf v).af = v &&& 0xFFF0 ∧
    (k.setReg8 .b w).bc = word w k.c ∧ (k.setReg8 .c w).bc = word k.b w ∧ (k.setReg8 .d w).de = word w k.e ∧
    (k.setReg8 .e w).de = word k.d w ∧ (k.setReg8 .h w).hl = word w k.l ∧ (k.setReg8 .l w).hl = word k.h w

/-- 00_scope R14: `Push16` writes the high byte at `SP-1`, then the low byte at `SP-2`; `Pop16` reads the low byte at `SP`,
the high byte at `SP+1`. Nothing else changes. -/
def Obligations.StackPrimitives : Prop :=
  ∀ (v : Word) (s : State),
    push16 v s = onCpu (fun k => { k with sp := k.sp - 2 })
      (memWrite (s.cpu.sp - 2) (loByte v) (memWrite (s.cpu.sp - 1) (hiByte v) s)) ∧
    (pop16 s).1.toNat = 256 * (memRead s (s.cpu.sp + 1)).toNat + (memRead s s.cpu.sp).toNat ∧
    (pop16 s).2 = onCpu (fun k => { k with sp := k.sp + 2 }) s

/-- 40_loads R192-R194, 44_control R356, R358, R361: with the stack in plain storage, `PUSH rr; POP rr` leaves every
register and flag as it was, and so does a call or `RST` followed at its target by `RET`. -/
def Obligations.StackRoundTrips : Prop :=
  ∀ (s : State), PlainStorage s (s.cpu.sp - 1) → PlainStorage s (s.cpu.sp - 2) →
    (∀ p : StackPair, ∃ t u, exec (instrPush p) s = .next t ∧ t.cpu.sp = s.cpu.sp - 2 ∧
      exec (instrPop p) t = .next u ∧ u.cpu = s.cpu ∧ u.mem = t.mem) ∧
    (∀ nn : Word, ∃ t u, exec (.call_nn nn) s = .next t ∧ t.cpu.pc = nn ∧ t.cpu.sp = s.cpu.sp - 2 ∧
      exec .ret t = .next u ∧ u.cpu = s.cpu) ∧
    (∀ v : RstVector, ∃ t u, exec (instrRst v) s = .next t ∧ t.cpu.pc = v.address ∧ t.cpu.sp = s.cpu.sp - 2 ∧
      exec .ret t = .next u ∧ u.cpu = s.cpu)

/-! ### Loads -/

/-- 40_loads R170-R174: `LD r, r'`, `LD r, n`, `LD r, (HL)`, `LD (HL), r`, `LD (HL), n`: the encoding, the value moved, the
count, and nothing else changed. -/
def Obligations.Loads8 : Prop :=
  ∀ (s : State) (r q : Reg8) (n : Byte),
    encode (instrLd (.reg r) (.reg q)) = [byteOf (0x40 + 8 * r.code + q.code)] ∧
    exec (instrLd (.reg r) (.reg q)) s = .next { s with cpu := s.cpu.setReg8 r (s.cpu.reg8 q), elapsed := 1 } ∧
    encode (instrLdImm (.reg r) n) = [byteOf (0x06 + 8 * r.code), n] ∧
    exec (instrLdImm (.reg r) n) s = .next { s with cpu := s.cpu.setReg8 r n, elapsed := 2 } ∧
    encode (instrLd (.reg r) .atHl) = [byteOf (0x46 + 8 * r.code)] ∧
    exec (instrLd (.reg r) .atHl) s =
      .next { s with cpu := s.cpu.setReg8 r (memRead s s.cpu.hl), elapsed := 2 } ∧
    encode (instrLd .atHl (.reg q)) = [byteOf (0x70 + q.code)] ∧
    exec (instrLd .atHl (.reg q)) s = .next { memWrite s.cpu.hl (s.cpu.reg8 q) s with elapsed := 2 } ∧
    encode (instrLdImm .atHl n) = [0x36, n] ∧
    exec (instrLdImm .atHl n) s = .next { memWrite s.cpu.hl n s with elapsed := 3 }

/-- 40_loads R175-R188: the loads into `A` and the stores of `A`: the address of each form, the byte moved, `HL` moved by
`(HL+)` and `(HL-)`, and nothing else changed. -/
def Obligations.AccumulatorLoadsAndStores : Prop :=
  ∀ (s : State) (nn : Word) (n : Byte),
    let page (n : Byte) : Word := BitVec.ofNat 16 (0xFF00 + n.toNat)
    let loaded (a : Word) (k : Cpu) (count : Nat) : State :=
      { s with cpu := { k with a := memRead s a }, elapsed := count }
    let stored (a : Word) (k : Cpu) (count : Nat) : State := { memWrite a s.cpu.a s with cpu := k, elapsed := count }
    exec .ld_a_at_bc s = .next (loaded s.cpu.bc s.cpu 2) ∧ exec .ld_at_bc_a s = .next (stored s.cpu.bc s.cpu 2) ∧
    exec .ld_a_at_de s = .next (loaded s.cpu.de s.cpu 2) ∧ exec .ld_at_de_a s = .next (stored s.cpu.de s.cpu 2) ∧
    exec (.ld_a_at_nn nn) s = .next (loaded nn s.cpu 4) ∧ exec (.ld_at_nn_a nn) s = .next (stored nn s.cpu 4) ∧
    exec (.ldh_a_at_n n) s = .next (loaded (page n) s.cpu 3) ∧
    exec (.ldh_at_n_a n) s = .next (stored (page n) s.cpu 3) ∧
    exec .ld_a_at_c s = .next (loaded (page s.cpu.c) s.cpu 2) ∧
    exec .ld_at_c_a s = .next (stored (page s.cpu.c) s.cpu 2) ∧
    exec .ld_a_at_hli s = .next (loaded s.cpu.hl (s.cpu.setHl (s.cpu.hl + 1)) 2) ∧
    exec .ld_at_hli_a s = .next (stored s.cpu.hl (s.cpu.setHl (s.cpu.hl + 1)) 2) ∧
    exec .ld_a_at_hld s = .next (loaded s.cpu.hl (s.cpu.setHl (s.cpu.hl - 1)) 2) ∧
    exec .ld_at_hld_a s = .next (stored s.cpu.hl (s.cpu.setHl (s.cpu.hl - 1)) 2) ∧
    encode .ld_a_at_bc = [0x0A] ∧ encode .ld_at_bc_a = [0x02] ∧ encode .ld_a_at_de = [0x1A] ∧
    encode .ld_at_de_a = [0x12] ∧ encode (.ld_a_at_nn nn) = [0xFA, byteOf nn.toNat, byteOf (nn.toNat / 256)] ∧
    encode (.ld_at_nn_a nn) = [0xEA, byteOf nn.toNat, byteOf (nn.toNat / 256)] ∧ encode (.ldh_a_at_n n) = [0xF0, n] ∧
    encode (.ldh_at_n_a n) = [0xE0, n] ∧ encode .ld_a_at_c = [0xF2] ∧ encode .ld_at_c_a = [0xE2] ∧
    encode .ld_a_at_hli = [0x2A] ∧ encode .ld_at_hli_a = [0x22] ∧ encode .ld_a_at_hld = [0x3A] ∧
    encode .ld_at_hld_a = [0x32]

/-- 40_loads R189-R191: `LD rr, nn`, `LD (nn), SP` (low byte at `nn`, then high byte at `nn + 1`) and `LD SP, HL`. -/
def Obligations.Loads16 : Prop :=
  ∀ (s : State) (p : Pair) (nn : Word),
    encode (instrLdPair p nn) = [byteOf (0x01 + 16 * p.code), byteOf nn.toNat, byteOf (nn.toNat / 256)] ∧
    exec (instrLdPair p nn) s = .next { s with cpu := s.cpu.setPair p nn, elapsed := 3 } ∧
    encode (.ld_at_nn_sp nn) = [0x08, byteOf nn.toNat, byteOf (nn.toNat / 256)] ∧
    exec (.ld_at_nn_sp nn) s =
      .next
        { memWrite (nn + 1) (byteOf (s.cpu.sp.toNat / 256)) (memWrite nn (byteOf s.cpu.sp.toNat) s) with elapsed := 5 } ∧
    encode .ld_sp_hl = [0xF9] ∧ exec .ld_sp_hl s = .next { s with cpu := { s.cpu with sp := s.cpu.hl }, elapsed := 2 }

/-- 40_loads R192-R194: `PUSH rr` and `POP rr`: the two bytes moved, `SP`, and nothing else; `POP AF` takes the flags from
bits 7..4 of the low byte and discards bits 3..0. -/
def Obligations.StackTransfers : Prop :=
  ∀ (s : State) (p : StackPair),
    encode (instrPush p) = [byteOf (0xC5 + 16 * p.code)] ∧
    exec (instrPush p) s =
      .next
        { memWrite (s.cpu.sp - 2) (loByte (s.cpu.stackPair p))
            (memWrite (s.cpu.sp - 1) (hiByte (s.cpu.stackPair p)) s) with
          cpu := { s.cpu with sp := s.cpu.sp - 2 }, elapsed := 4 } ∧
    encode (instrPop p) = [byteOf (0xC1 + 16 * p.code)] ∧
    (let lo := memRead s s.cpu.sp
     let hi := memRead s (s.cpu.sp + 1)
     let k := { s.cpu with sp := s.cpu.sp + 2 }
     exec (instrPop p) s =
      .next
        { s with
          cpu :=
            match p with
            | .bc => { k with b := hi, c := lo }
            | .de => { k with d := hi, e := lo }
            | .hl => { k with h := hi, l := lo }
            | .af => { k with a := hi, f := ⟨lo.getLsbD 7, lo.getLsbD 6, lo.getLsbD 5, lo.getLsbD 4⟩ }
          elapsed := 3 })

/-! ### Arithmetic and logic -/

/-- 41_alu8 R231, R232: `ADD A, s` and `ADC A, s` over register, `(HL)` and immediate sources, on unbounded integers. -/
def Obligations.AddAndAdc : Prop :=
  ∀ (s : State) (src : Source8) (x y c : Nat), x = s.cpu.a.toNat → y = (readSource s src).toNat → c = s.cpu.f.c.toNat →
    encode (aluInstr .add src) = aluBytes .add src ∧ encode (aluInstr .adc src) = aluBytes .adc src ∧
    exec (aluInstr .add src) s =
      .next
        { s with
          cpu :=
            { s.cpu with
              a := byteOf (x + y)
              f := ⟨decide ((x + y) % 256 = 0), false, decide (x % 16 + y % 16 > 0xF), decide (x + y > 0xFF)⟩ }
          elapsed := src.cycles } ∧
    exec (aluInstr .adc src) s =
      .next
        { s with
          cpu :=
            { s.cpu with
              a := byteOf (x + y + c)
              f :=
                ⟨decide ((x + y + c) % 256 = 0), false, decide (x % 16 + y % 16 + c > 0xF), decide (x + y + c > 0xFF)⟩ }
          elapsed := src.cycles }

/-- 41_alu8 R233, R234, R235: `SUB s`, `SBC A, s` and `CP s`, which leaves `A`, on unbounded integers. -/
def Obligations.SubSbcAndCp : Prop :=
  ∀ (s : State) (src : Source8) (x y c : Nat), x = s.cpu.a.toNat → y = (readSource s src).toNat → c = s.cpu.f.c.toNat →
    encode (aluInstr .sub src) = aluBytes .sub src ∧ encode (aluInstr .sbc src) = aluBytes .sbc src ∧
    encode (aluInstr .cp src) = aluBytes .cp src ∧
    exec (aluInstr .sub src) s =
      .next
        { s with
          cpu :=
            { s.cpu with
              a := byteOf (x + 256 - y), f := ⟨decide (x = y), true, decide (x % 16 < y % 16), decide (x < y)⟩ }
          elapsed := src.cycles } ∧
    exec (aluInstr .sbc src) s =
      .next
        { s with
          cpu :=
            { s.cpu with
              a := byteOf (x + 512 - (y + c))
              f :=
                ⟨decide ((x + 512 - (y + c)) % 256 = 0), true, decide (x % 16 < y % 16 + c), decide (x < y + c)⟩ }
          elapsed := src.cycles } ∧
    exec (aluInstr .cp src) s =
      .next
        { s with
          cpu := { s.cpu with f := ⟨decide (x = y), true, decide (x % 16 < y % 16), decide (x < y)⟩ }
          elapsed := src.cycles }

/-- 41_alu8 R236, R237, R238: `AND s`, `XOR s`, `OR s`. -/
def Obligations.AndXorOr : Prop :=
  ∀ (s : State) (src : Source8) (y : Byte), y = readSource s src →
    encode (aluInstr .and src) = aluBytes .and src ∧ encode (aluInstr .xor src) = aluBytes .xor src ∧
    encode (aluInstr .or src) = aluBytes .or src ∧
    exec (aluInstr .and src) s =
      .next
        { s with
          cpu := { s.cpu with a := s.cpu.a &&& y, f := ⟨decide (s.cpu.a &&& y = 0), false, true, false⟩ }
          elapsed := src.cycles } ∧
    exec (aluInstr .xor src) s =
      .next
        { s with
          cpu := { s.cpu with a := s.cpu.a ^^^ y, f := ⟨decide (s.cpu.a ^^^ y = 0), false, false, false⟩ }
          elapsed := src.cycles } ∧
    exec (aluInstr .or src) s =
      .next
        { s with
          cpu := { s.cpu with a := s.cpu.a ||| y, f := ⟨decide (s.cpu.a ||| y = 0), false, false, false⟩ }
          elapsed := src.cycles }

/-- 41_alu8 R239-R242: `INC` and `DEC` of a register and of `(HL)`; C is unchanged. -/
def Obligations.IncAndDec8 : Prop :=
  ∀ (s : State) (o : Operand8) (v : Nat), v = (readOperand s o).toNat →
    encode (instrInc o) = [byteOf (0x04 + 8 * o.code)] ∧ encode (instrDec o) = [byteOf (0x05 + 8 * o.code)] ∧
    exec (instrInc o) s =
      .next
        { onCpu (fun k => { k with f := ⟨decide (v = 255), false, decide (v % 16 = 0xF), s.cpu.f.c⟩ })
            (writeOperand o (byteOf (v + 1)) s) with
          elapsed := o.cycles 1 3 } ∧
    exec (instrDec o) s =
      .next
        { onCpu (fun k => { k with f := ⟨decide (v = 1), true, decide (v % 16 = 0x0), s.cpu.f.c⟩ })
            (writeOperand o (byteOf (v + 255)) s) with
          elapsed := o.cycles 1 3 }

/-- 41_alu8 R243-R246: `DAA`, both branches (both tests of the add branch look at `A` before either adjustment), `CPL`,
`SCF` and `CCF`. -/
def Obligations.DaaCplScfCcf : Prop :=
  ∀ (s : State) (x hi lo : Nat), x = s.cpu.a.toNat →
    encode .daa = [0x27] ∧ encode .cpl = [0x2F] ∧ encode .scf = [0x37] ∧ encode .ccf = [0x3F] ∧
    (s.cpu.f.n = false → hi = (if s.cpu.f.c = true ∨ x > 0x99 then 0x60 else 0) →
      lo = (if s.cpu.f.h = true ∨ x % 16 > 9 then 0x06 else 0) →
      exec .daa s =
        .next
          { s with
            cpu :=
              { s.cpu with
                a := byteOf (x + hi + lo)
                f := ⟨decide ((x + hi + lo) % 256 = 0), false, false, decide (s.cpu.f.c = true ∨ x > 0x99)⟩ }
            elapsed := 1 }) ∧
    (s.cpu.f.n = true → hi = (if s.cpu.f.c = true then 0x60 else 0) → lo = (if s.cpu.f.h = true then 0x06 else 0) →
      exec .daa s =
        .next
          { s with
            cpu :=
              { s.cpu with
                a := byteOf (x + 512 - hi - lo)
                f := ⟨decide ((x + 512 - hi - lo) % 256 = 0), true, false, s.cpu.f.c⟩ }
            elapsed := 1 }) ∧
    exec .cpl s =
      .next { s with cpu := { s.cpu with a := byteOf (255 - x), f := ⟨s.cpu.f.z, true, true, s.cpu.f.c⟩ }, elapsed := 1 } ∧
    exec .scf s = .next { s with cpu := { s.cpu with f := ⟨s.cpu.f.z, false, false, true⟩ }, elapsed := 1 } ∧
    exec .ccf s = .next { s with cpu := { s.cpu with f := ⟨s.cpu.f.z, false, false, !s.cpu.f.c⟩ }, elapsed := 1 }

/-- 41_alu8 R231, R233, R243: `DAA` after `ADD A, n` or `SUB n` of two-digit decimal numbers gives the decimal sum or
difference modulo 100, with C as the decimal carry or borrow. -/
def Obligations.DecimalArithmetic : Prop :=
  ∀ (s : State) (x1 x0 y1 y0 : Nat), x1 ≤ 9 → x0 ≤ 9 → y1 ≤ 9 → y0 ≤ 9 → s.cpu.a = byteOf (16 * x1 + x0) →
    let x := 10 * x1 + x0
    let y := 10 * y1 + y0
    (∃ t u, exec (.add_a_n (byteOf (16 * y1 + y0))) s = .next t ∧ exec .daa t = .next u ∧
      u.cpu.a = byteOf (16 * ((x + y) / 10 % 10) + (x + y) % 10) ∧ u.cpu.f.c = decide (x + y > 99) ∧
      u.cpu.f.z = decide ((x + y) % 100 = 0)) ∧
    (∃ t u, exec (.sub_n (byteOf (16 * y1 + y0))) s = .next t ∧ exec .daa t = .next u ∧
      u.cpu.a = byteOf (16 * ((x + 100 - y) / 10 % 10) + (x + 100 - y) % 10) ∧ u.cpu.f.c = decide (x < y) ∧
      u.cpu.f.z = decide (x = y))

/-- 42_alu16 R280, R281, R282: `INC rr` and `DEC rr` modulo 65536 with no flag; `ADD HL, rr` with H and C the carries out of
bits 11 and 15 and Z unchanged. -/
def Obligations.PairArithmetic : Prop :=
  ∀ (s : State) (p : Pair) (x v : Nat), x = s.cpu.hl.toNat → v = (s.cpu.pair p).toNat →
    encode (instrIncPair p) = [byteOf (0x03 + 16 * p.code)] ∧ encode (instrDecPair p) = [byteOf (0x0B + 16 * p.code)] ∧
    encode (instrAddHl p) = [byteOf (0x09 + 16 * p.code)] ∧
    exec (instrIncPair p) s = .next { s with cpu := s.cpu.setPair p (BitVec.ofNat 16 (v + 1)), elapsed := 2 } ∧
    exec (instrDecPair p) s = .next { s with cpu := s.cpu.setPair p (BitVec.ofNat 16 (v + 65535)), elapsed := 2 } ∧
    exec (instrAddHl p) s =
      .next
        { s with
          cpu :=
            { s.cpu.setHl (BitVec.ofNat 16 (x + v)) with
              f := ⟨s.cpu.f.z, false, decide (x % 4096 + v % 4096 > 0x0FFF), decide (x + v > 0xFFFF)⟩ }
          elapsed := 2 }

/-- 42_alu16 R283, R284: `ADD SP, e` and `LD HL, SP+e`: the displacement is signed, the flags are the carries of the
unsigned addition to the low byte, Z = N = 0. -/
def Obligations.StackPointerOffset : Prop :=
  ∀ (s : State) (d : Byte) (f : Flags) (target : Word),
    f = ⟨false, false, decide (s.cpu.sp.toNat % 16 + d.toNat % 16 > 0x0F), decide (s.cpu.sp.toNat % 256 + d.toNat > 0xFF)⟩ →
    (target.toNat : Int) = ((s.cpu.sp.toNat : Int) + d.toInt) % 65536 →
    encode (.add_sp_e d) = [0xE8, d] ∧ encode (.ld_hl_sp_e d) = [0xF8, d] ∧
    exec (.add_sp_e d) s = .next { s with cpu := { s.cpu with sp := target, f := f }, elapsed := 4 } ∧
    exec (.ld_hl_sp_e d) s = .next { s with cpu := { s.cpu.setHl target with f := f }, elapsed := 3 }

/-- 43_rotate_shift_bit R300-R303, R305-R312: the accumulator rotates, which write Z 0 whatever the result, and the eight
CB rotates, shifts and `SWAP` on a register and on `(HL)`, with Z from the result; N = H = 0, C the bit moved out. -/
def Obligations.RotatesAndShifts : Prop :=
  ∀ (s : State) (op : RotOp) (o : Operand8) (v r c : Nat), v = (readOperand s o).toNat → c = s.cpu.f.c.toNat →
    r = rotateValue op v c →
    let onA (op : RotOp) : State :=
      { s with
        cpu :=
          { s.cpu with
            a := byteOf (rotateValue op s.cpu.a.toNat c), f := ⟨false, false, false, rotateOut op s.cpu.a.toNat⟩ }
        elapsed := 1 }
    encode .rlca = [0x07] ∧ encode .rrca = [0x0F] ∧ encode .rla = [0x17] ∧ encode .rra = [0x1F] ∧
    exec .rlca s = .next (onA .rlc) ∧ exec .rrca s = .next (onA .rrc) ∧ exec .rla s = .next (onA .rl) ∧
    exec .rra s = .next (onA .rr) ∧
    encode (instrRot op o) = [0xCB, byteOf (8 * op.code + o.code)] ∧
    exec (instrRot op o) s =
      .next
        { onCpu (fun k => { k with f := ⟨decide (r = 0), false, false, rotateOut op v⟩ })
            (writeOperand o (byteOf r) s) with
          elapsed := o.cycles 2 4 }

/-- 43_rotate_shift_bit R313, R314, R315: `BIT`, `RES`, `SET` on a register and on `(HL)`. `BIT` writes nothing back and
keeps C; `RES` and `SET` change the one bit and no flag. -/
def Obligations.BitOperations : Prop :=
  ∀ (s : State) (b : BitIndex) (o : Operand8) (v : Byte), v = readOperand s o →
    encode (instrBit b o) = [0xCB, byteOf (0x40 + 8 * b.toNat + o.code)] ∧
    encode (instrRes b o) = [0xCB, byteOf (0x80 + 8 * b.toNat + o.code)] ∧
    encode (instrSet b o) = [0xCB, byteOf (0xC0 + 8 * b.toNat + o.code)] ∧
    exec (instrBit b o) s =
      .next
        { s with
          cpu := { s.cpu with f := ⟨decide (v.toNat / 2 ^ b.toNat % 2 = 0), false, true, s.cpu.f.c⟩ }
          elapsed := o.cycles 2 3 } ∧
    (∃ w : Byte, (∀ k : Nat, k < 8 → w.getLsbD k = if k = b.toNat then false else v.getLsbD k) ∧
      exec (instrRes b o) s = .next { writeOperand o w s with elapsed := o.cycles 2 4 }) ∧
    (∃ w : Byte, (∀ k : Nat, k < 8 → w.getLsbD k = if k = b.toNat then true else v.getLsbD k) ∧
      exec (instrSet b o) s = .next { writeOperand o w s with elapsed := o.cycles 2 4 })

/-! ### Control -/

/-- 44_control R350-R355: the jumps. `target` is the pc after the instruction plus the signed displacement, modulo
65536. -/
def Obligations.Jumps : Prop :=
  ∀ (s : State) (nn target : Word) (d : Byte) (cc : Cond),
    (target.toNat : Int) = ((s.cpu.pc.toNat : Int) + d.toInt) % 65536 →
    let met : Bool := match cc with
      | .nz => !s.cpu.f.z
      | .z => s.cpu.f.z
      | .nc => !s.cpu.f.c
      | .c => s.cpu.f.c
    let goTo (pc : Word) (n : Nat) : State := { s with cpu := { s.cpu with pc := pc }, elapsed := n }
    encode (.jp_nn nn) = [0xC3, byteOf nn.toNat, byteOf (nn.toNat / 256)] ∧
    encode (instrJpCond cc nn) = [byteOf (0xC2 + 8 * cc.code), byteOf nn.toNat, byteOf (nn.toNat / 256)] ∧
    encode .jp_hl = [0xE9] ∧ encode (.jr_e d) = [0x18, d] ∧ encode (instrJrCond cc d) = [byteOf (0x20 + 8 * cc.code), d] ∧
    exec (.jp_nn nn) s = .next (goTo nn 4) ∧
    exec (instrJpCond cc nn) s = .next (if met then goTo nn 4 else { s with elapsed := 3 }) ∧
    exec .jp_hl s = .next (goTo s.cpu.hl 1) ∧ exec (.jr_e d) s = .next (goTo target 3) ∧
    exec (instrJrCond cc d) s = .next (if met then goTo target 3 else { s with elapsed := 2 })

/-- 44_control R356, R357, R361: `CALL nn`, `CALL cc, nn` and `RST`: the pc pushed high byte first, then the jump; not taken,
no stack access. -/
def Obligations.CallsAndRst : Prop :=
  ∀ (s : State) (nn : Word) (cc : Cond) (v : RstVector),
    let pushed (pc : Word) (n : Nat) : State :=
      { memWrite (s.cpu.sp - 2) (byteOf s.cpu.pc.toNat)
          (memWrite (s.cpu.sp - 1) (byteOf (s.cpu.pc.toNat / 256)) s) with
        cpu := { s.cpu with sp := s.cpu.sp - 2, pc := pc }, elapsed := n }
    encode (.call_nn nn) = [0xCD, byteOf nn.toNat, byteOf (nn.toNat / 256)] ∧
    encode (instrCallCond cc nn) = [byteOf (0xC4 + 8 * cc.code), byteOf nn.toNat, byteOf (nn.toNat / 256)] ∧
    encode (instrRst v) = [byteOf (0xC7 + v.address.toNat)] ∧
    exec (.call_nn nn) s = .next (pushed nn 6) ∧
    exec (instrCallCond cc nn) s = .next (if s.cpu.f.holds cc then pushed nn 6 else { s with elapsed := 3 }) ∧
    exec (instrRst v) s = .next (pushed v.address 4)

/-- 44_control R358, R359, R360: `RET`, `RET cc` and `RETI`, which sets `IME` at once and leaves the EI counter. -/
def Obligations.Returns : Prop :=
  ∀ (s : State) (cc : Cond) (target : Word),
    target.toNat = 256 * (memRead s (s.cpu.sp + 1)).toNat + (memRead s s.cpu.sp).toNat →
    encode .ret = [0xC9] ∧ encode (instrRetCond cc) = [byteOf (0xC0 + 8 * cc.code)] ∧ encode .reti = [0xD9] ∧
    exec .ret s = .next { s with cpu := { s.cpu with pc := target, sp := s.cpu.sp + 2 }, elapsed := 4 } ∧
    exec (instrRetCond cc) s =
      .next
        (if s.cpu.f.holds cc then { s with cpu := { s.cpu with pc := target, sp := s.cpu.sp + 2 }, elapsed := 5 }
        else { s with elapsed := 2 }) ∧
    exec .reti s = .next { s with cpu := { s.cpu with pc := target, sp := s.cpu.sp + 2, ime := true }, elapsed := 4 }

/-! ### System -/

/-- 45_system R390, R392, R396, R397: `NOP`, `DI`, `EI`, and `HALT` in its four cases. -/
def Obligations.NopDiEiHalt : Prop :=
  ∀ (s : State) (pending : Prop), (pending ↔ s.irq.flag &&& s.irq.enable ≠ 0) →
    encode .nop = [0x00] ∧ encode .di = [0xF3] ∧ encode .ei = [0xFB] ∧ encode .halt = [0x76] ∧
    exec .nop s = .next { s with elapsed := 1 } ∧
    exec .di s = .next { s with cpu := { s.cpu with ime := false, eiDelay := 0 }, elapsed := 1 } ∧
    exec .ei s = .next { s with cpu := { s.cpu with eiDelay := 2 }, elapsed := 1 } ∧
    (s.cpu.ime = true → exec .halt s = .next { s with cpu := { s.cpu with mode := .halted }, elapsed := 1 }) ∧
    (s.cpu.ime = false → ¬pending →
      exec .halt s = .next { s with cpu := { s.cpu with mode := .halted }, elapsed := 1 }) ∧
    (s.cpu.ime = false → pending → s.cfg.haltBug = true →
      exec .halt s = .next { s with cpu := { s.cpu with haltBug := true }, elapsed := 1 }) ∧
    (s.cpu.ime = false → pending → s.cfg.haltBug = false → exec .halt s = .next { s with elapsed := 1 })

/-- 45_system R394, R398, 60_exceptions R425: `STOP` and the undefined opcodes under each of their parameters. The pc here
is past the bytes the decoder fetched. That a refused `STOP` leaves the pc after its first byte, and that the address
reported is one less than the pc even under the HALT bug, are the model's readings (log entries 9, 10). -/
def Obligations.StopAndUndefined : Prop :=
  ∀ (s : State) (n : Byte) (p : Byte × Instr), p ∈ undefinedRows →
    encode (.stop n) = [0x10, n] ∧ encode p.2 = [p.1] ∧
    (s.cfg.stopMode = .waitButton →
      exec (.stop n) s =
        .next
          { s with
            cpu := { s.cpu with mode := .stopped }, timer := { s.timer with divCounter := 0 }, elapsed := 1 }) ∧
    (s.cfg.stopMode = .refuse →
      exec (.stop n) s =
        .next
          { s with
            cpu := { s.cpu with mode := .locked, pc := s.cpu.pc - 1 }
            diagnostic := some { op := 0x10, addr := s.cpu.pc - 2, cause := .refusedStop }, elapsed := 1 }) ∧
    (s.cfg.illegalOpcodeMode = .lock →
      exec p.2 s =
        .next
          { s with
            cpu := { s.cpu with mode := .locked }
            diagnostic := some { op := p.1, addr := s.cpu.pc - 1, cause := .undefinedOpcode }, elapsed := 1 }) ∧
    (s.cfg.illegalOpcodeMode = .nop → exec p.2 s = .next { s with elapsed := 1 })

/-! ### Timer -/

/-- 61_timer R472, R473: one M-cycle of the timer: the delayed reload with its interrupt, the divider by 4, the sample, and
the falling edge's increment with its overflow mark. Nothing else changes. -/
def Obligations.TimerCycle : Prop :=
  ∀ (s : State) (base : Byte) (div : Word) (sample edge : Bool),
    base = (if s.timer.overflowPending then s.timer.tma else s.timer.tima) → div = s.timer.divCounter + 4 →
    sample = (s.timer.tac.getLsbD 2 &&
      div.getLsbD (if s.timer.tac.toNat % 4 = 0 then 9 else if s.timer.tac.toNat % 4 = 1 then 3
        else if s.timer.tac.toNat % 4 = 2 then 5 else 7)) →
    edge = (s.timer.prevSample && !sample) →
    timerMCycle s =
      { s with
        timer :=
          { divCounter := div, tima := if edge then base + 1 else base, tma := s.timer.tma, tac := s.timer.tac
            prevSample := sample, overflowPending := edge && decide (base = 0xFF) }
        irq := { s.irq with flag := if s.timer.overflowPending then s.irq.flag ||| 0b00100 else s.irq.flag } }

/-- 61_timer R475-R478, 10_state R36: the writes to `DIV`, `TIMA`, `TMA` and `TAC`, with the falling edge a `TAC` write can
make. Nothing else changes. -/
def Obligations.TimerWrites : Prop :=
  ∀ (s : State) (v : Byte) (old new : Bool), s.dma.active = false →
    old = timerSignal s.timer.tac s.timer.divCounter → new = timerSignal (v.extractLsb' 0 3) s.timer.divCounter →
    memWrite 0xFF04 v s = { s with timer := { s.timer with divCounter := 0 } } ∧
    memWrite 0xFF05 v s = { s with timer := { s.timer with tima := v, overflowPending := false } } ∧
    memWrite 0xFF06 v s = { s with timer := { s.timer with tma := v } } ∧
    memWrite 0xFF07 v s =
      { s with
        timer :=
          { s.timer with
            tac := v.extractLsb' 0 3, prevSample := new
            tima := if old = true ∧ new = false then s.timer.tima + 1 else s.timer.tima
            overflowPending :=
              if old = true ∧ new = false ∧ s.timer.tima = 0xFF then true else s.timer.overflowPending } }

/-- 61_timer R471, R472: an enabled timer counts one `TIMA` increment per `2^(Sel+1)` T-cycles of the divider: over `n`
M-cycles, as many as the multiples of that the divider passes, as long as `TIMA` does not overflow. -/
def Obligations.TimaRate : Prop :=
  ∀ (s : State) (n sel crossed : Nat), s.timer.tac.getLsbD 2 = true → sel = timerBit s.timer.tac →
    s.timer.prevSample = timerSignal s.timer.tac s.timer.divCounter → s.timer.overflowPending = false →
    crossed = (s.timer.divCounter.toNat + 4 * n) / 2 ^ (sel + 1) - s.timer.divCounter.toNat / 2 ^ (sel + 1) →
    s.timer.tima.toNat + crossed ≤ 255 →
    (repeatN n timerMCycle s).timer.tima.toNat = s.timer.tima.toNat + crossed ∧
    (repeatN n timerMCycle s).irq = s.irq

/-! ### PPU -/

/-- 63_ppu R531-R534, R537: while the LCD is on, `n` ticks move the position in the frame by `n` modulo 70224, and the mode
is that of the table; the V-blank interrupt is requested exactly by the tick that enters line 144. -/
def Obligations.PpuFrameTiming : Prop :=
  ∀ (s : State), s.ppu.OnTrack →
    (∀ n : Nat, (repeatN n ppuTick s).ppu.OnTrack ∧
      (repeatN n ppuTick s).ppu.position = (s.ppu.position + n) % 70224) ∧
    (ppuTick s).irq.flag.getLsbD 0 = (s.irq.flag.getLsbD 0 || decide (s.ppu.position = 143 * 456 + 455))

/-- 63_ppu R535, R538: the STAT interrupt is requested by a tick that changes the mode to an enabled one, or changes `LY` to
`LYC` with bit 6 set, and by no other; the coincidence flag changes only with `LY`. A write to `STAT` or `LYC` requests
nothing and leaves the flag. -/
def Obligations.StatInterrupts : Prop :=
  ∀ (s t : State) (newLine : Bool), s.ppu.OnTrack → t = ppuTick s → newLine = decide (s.ppu.dot = 455) →
    let enabled : Bool := match t.ppu.mode with
      | .hblank => s.ppu.statEnables.getLsbD 0
      | .vblank => s.ppu.statEnables.getLsbD 1
      | .oamScan => s.ppu.statEnables.getLsbD 2
      | .drawing => false
    t.irq.flag.getLsbD 1 =
      (s.irq.flag.getLsbD 1 || (decide (t.ppu.mode ≠ s.ppu.mode) && enabled) ||
        (newLine && decide (t.ppu.ly = s.ppu.lyc) && s.ppu.statEnables.getLsbD 3)) ∧
    t.ppu.coincidence = (if newLine then decide (t.ppu.ly = s.ppu.lyc) else s.ppu.coincidence) ∧
    (s.dma.active = false → ∀ v : Byte,
      memWrite 0xFF41 v s = { s with ppu := { s.ppu with statEnables := v.extractLsb' 3 4 } } ∧
      memWrite 0xFF45 v s = { s with ppu := { s.ppu with lyc := v } })

/-- 63_ppu R530, R532, R536, R550, R554, R560: a tick changes nothing but the PPU's own state and the two interrupt requests:
not the CPU, the memories, the timer, or a register a program writes. With the LCD on, the tick that takes the dot of a
visible line from 79 to 80 composes that line, into the framebuffer and the window counter; every other tick leaves the
framebuffer, and the window counter too, but for the one that ends line 153, which clears the counter. -/
def Obligations.PpuTouchesOnlyItself : Prop :=
  ∀ (s t : State), t = ppuTick s →
    t = { s with ppu := t.ppu, irq := t.irq } ∧ t.irq.enable = s.irq.enable ∧
    (∀ k : Nat, 2 ≤ k → t.irq.flag.getLsbD k = s.irq.flag.getLsbD k) ∧
    t.ppu = { s.ppu with
      ly := t.ppu.ly, mode := t.ppu.mode, dot := t.ppu.dot, coincidence := t.ppu.coincidence
      windowLine := t.ppu.windowLine, fb := t.ppu.fb } ∧
    (∀ y : Nat, y ≠ s.ppu.ly.toNat → t.ppu.fb.row y = s.ppu.fb.row y) ∧
    (s.ppu.lcdc.getLsbD 7 = true →
      (s.ppu.ly.toNat < 144 ∧ s.ppu.dot = 79 →
        t.ppu.fb = (composeLine s.ppu.ly.toNat s).ppu.fb ∧
        t.ppu.windowLine = (composeLine s.ppu.ly.toNat s).ppu.windowLine) ∧
      (¬(s.ppu.ly.toNat < 144 ∧ s.ppu.dot = 79) →
        t.ppu.fb = s.ppu.fb ∧
        t.ppu.windowLine = if s.ppu.ly.toNat = 153 ∧ s.ppu.dot = 455 then 0 else s.ppu.windowLine))

/-- 63_ppu R545: switching the LCD off or on, with no interrupt; while it is off a tick does nothing and OAM writes are not
blocked. -/
def Obligations.LcdOnAndOff : Prop :=
  ∀ (s : State) (v : Byte), s.dma.active = false →
    (s.ppu.lcdc.getLsbD 7 = true → v.getLsbD 7 = false →
      memWrite 0xFF40 v s =
        { s with
          ppu :=
            { s.ppu with lcdc := v, ly := 0, dot := 0, mode := .hblank, coincidence := decide (s.ppu.lyc = 0) } }) ∧
    (s.ppu.lcdc.getLsbD 7 = false → v.getLsbD 7 = true →
      memWrite 0xFF40 v s =
        { s with
          ppu :=
            { s.ppu with
              lcdc := v, ly := 0, dot := 0, mode := .oamScan, coincidence := decide (s.ppu.lyc = 0), windowLine := 0 } }) ∧
    (s.ppu.lcdc.getLsbD 7 = v.getLsbD 7 → memWrite 0xFF40 v s = { s with ppu := { s.ppu with lcdc := v } }) ∧
    (s.ppu.lcdc.getLsbD 7 = false → ppuTick s = s ∧ oamBlocked s = false)

/-- 63_ppu R550, R551, R553-R556, R559: the composed line. The raw index of a pixel is the two bits that the tile row's
bytes hold, of the window where it covers the pixel, else of the background, and its shade that index through `BGP`; with
`LCDC[0]` off both are 0. The selected sprites go over it; with `LCDC[1]` off none is selected. The window counter moves on
by one if the window is drawn on the line. Other lines are unchanged. -/
def Obligations.ComposedLine : Prop :=
  ∀ (s t : State) (x y mx my base entry tile lo hi c shade : Nat) (window : Bool), y < 144 → x < 160 →
    t = composeLine y s →
    window = (s.ppu.lcdc.getLsbD 5 && decide (s.ppu.wy.toNat ≤ y) && decide (s.ppu.wx.toNat ≤ x + 7)) →
    mx = (if window then x + 7 - s.ppu.wx.toNat else (x + s.ppu.scx.toNat) % 256) →
    my = (if window then (if s.cfg.windowLineMode = .counter then s.ppu.windowLine.toNat else y - s.ppu.wy.toNat)
      else (y + s.ppu.scy.toNat) % 256) →
    base = (if (if window then s.ppu.lcdc.getLsbD 6 else s.ppu.lcdc.getLsbD 3) then 0x9C00 else 0x9800) →
    entry = (s.mem.get (base + 32 * (my / 8) + mx / 8)).toNat →
    tile = (if s.ppu.lcdc.getLsbD 4 then 0x8000 + 16 * entry
      else if entry < 128 then 0x9000 + 16 * entry else 0x8000 + 16 * entry) →
    lo = (s.mem.get (tile + 2 * (my % 8))).toNat → hi = (s.mem.get (tile + 2 * (my % 8) + 1)).toNat →
    c = (if s.ppu.lcdc.getLsbD 0 then 2 * (hi / 2 ^ (7 - mx % 8) % 2) + lo / 2 ^ (7 - mx % 8) % 2 else 0) →
    shade = (if s.ppu.lcdc.getLsbD 0 then s.ppu.bgp.toNat / 4 ^ c % 4 else 0) →
    t.ppu.fb.pixel y x = spriteOver s (selectSprites s y) x y (BitVec.ofNat 2 c) (BitVec.ofNat 2 shade) ∧
    (s.ppu.lcdc.getLsbD 1 = false → (t.ppu.fb.pixel y x).toNat = shade) ∧
    (t.ppu.fb.row y).length = 160 ∧ (∀ z : Nat, z ≠ y → t.ppu.fb.row z = s.ppu.fb.row z) ∧
    t.ppu.windowLine =
      (if s.cfg.windowLineMode = .counter ∧ s.ppu.lcdc.getLsbD 0 = true ∧ s.ppu.lcdc.getLsbD 5 = true ∧
        s.ppu.wy.toNat ≤ y ∧ s.ppu.wx.toNat ≤ 166 then s.ppu.windowLine + 1 else s.ppu.windowLine)

/-- 63_ppu R552: at most ten sprites are selected, each of them on the line, in OAM order, and a sprite on the line that is
left out comes after ten others. -/
def Obligations.SpriteSelection : Prop :=
  ∀ (s : State) (y : Nat), s.ppu.lcdc.getLsbD 1 = true →
    let onLine (i : Nat) : Prop :=
      let top : Int := ((s.mem.get (0xFE00 + 4 * i)).toNat : Int) - 16
      top ≤ y ∧ (y : Int) < top + (if s.ppu.lcdc.getLsbD 2 then 16 else 8)
    let objs := selectSprites s y
    objs.length ≤ 10 ∧ objs.Pairwise (· < ·) ∧ (∀ i ∈ objs, i < 40 ∧ onLine i) ∧
    (∀ i : Nat, i < 40 → onLine i → i ∉ objs → objs.length = 10 ∧ ∀ j ∈ objs, j < i)

/-- 63_ppu R557, R558: the pixel of a sprite that covers a point, with flips and tall sprites; and the sprite looked at for
a column: a covering one with the least (OAM X, index), of those whose pixel is not 0 under `OBJ_FALLTHROUGH`. It is drawn
through its palette unless its pixel is 0 or it lies behind a background whose raw index is not 0. -/
def Obligations.SpritePriority : Prop :=
  ∀ (s : State) (objs : List Nat) (x y : Nat) (c shade : Shade), objs.Pairwise (· < ·) →
    let oam (i k : Nat) : Nat := (s.mem.get (0xFE00 + 4 * i + k)).toNat
    let attr (i : Nat) : Byte := s.mem.get (0xFE00 + 4 * i + 3)
    let height : Nat := if s.ppu.lcdc.getLsbD 2 then 16 else 8
    let covers (i : Nat) : Prop := oam i 1 ≤ x + 8 ∧ x < oam i 1
    let looked (i : Nat) : Prop := covers i ∧ (s.cfg.objFallthrough = true → spritePixel s x y i ≠ 0)
    (∀ i : Nat, covers i → oam i 0 ≤ y + 16 → y + 16 < oam i 0 + height →
      let row := if (attr i).getLsbD 6 then height - 1 - (y + 16 - oam i 0) else y + 16 - oam i 0
      let col := if (attr i).getLsbD 5 then 7 - (x + 8 - oam i 1) else x + 8 - oam i 1
      let tile := if s.ppu.lcdc.getLsbD 2 then oam i 2 / 2 * 2 else oam i 2
      let lo := (s.mem.get (0x8000 + 16 * tile + 2 * row)).toNat
      let hi := (s.mem.get (0x8000 + 16 * tile + 2 * row + 1)).toNat
      (spritePixel s x y i).toNat = 2 * (hi / 2 ^ (7 - col) % 2) + lo / 2 ^ (7 - col) % 2) ∧
    ((∀ i ∈ objs, ¬looked i) → spriteOver s objs x y c shade = shade) ∧
    (∀ i ∈ objs, looked i → (∀ j ∈ objs, looked j → oam i 1 < oam j 1 ∨ (oam i 1 = oam j 1 ∧ i ≤ j)) →
      spriteOver s objs x y c shade =
        if spritePixel s x y i = 0 ∨ ((attr i).getLsbD 7 = true ∧ c ≠ 0) then shade
        else palette (if (attr i).getLsbD 4 then s.ppu.obp1 else s.ppu.obp0) (spritePixel s x y i))

/-! ### Joypad and serial -/

/-- 62_serial_joypad R510, R513, R514, 10_state R33: `P1` reads the selected row active low, all ones when both rows or
neither are selected; a write that takes a visible line from 1 to 0 requests the joypad interrupt. Nothing else changes. -/
def Obligations.JoypadRegister : Prop :=
  ∀ (s t : State) (v : Byte), s.dma.active = false → t = memWrite 0xFF00 v s →
    let k := s.joypad.buttons
    let rows : Nat :=
      if v.getLsbD 5 = false ∧ v.getLsbD 4 = true then
        15 - (k.a.toNat + 2 * k.b.toNat + 4 * k.select.toNat + 8 * k.start.toNat)
      else if v.getLsbD 4 = false ∧ v.getLsbD 5 = true then
        15 - (k.right.toNat + 2 * k.left.toNat + 4 * k.up.toNat + 8 * k.down.toNat)
      else 15
    (memRead t 0xFF00).toNat = 0xC0 + 32 * (v.getLsbD 5).toNat + 16 * (v.getLsbD 4).toNat + rows ∧
    t = { s with joypad := { s.joypad with select := v.extractLsb' 4 2 }, irq := t.irq } ∧
    t.irq.enable = s.irq.enable ∧
    (t.irq.flag = s.irq.flag ||| 0b10000 ∨ t.irq.flag = s.irq.flag) ∧
    (t.irq.flag.getLsbD 4 = true ↔ s.irq.flag.getLsbD 4 = true ∨
      ∃ n : Nat, n < 4 ∧ (memRead s 0xFF00).getLsbD n = true ∧ (memRead t 0xFF00).getLsbD n = false)

/-- 62_serial_joypad R511, R512, R513, 64_scheduler R604: `set_button` stores the key; a press that makes a visible line
fall requests the joypad interrupt; a press of a released key wakes a stopped CPU; nothing else changes. The host's calls
before a system step are made in their order. That they are the head of the queue `inputs`, which the step drops, is the
model's form of it (log entry 14). -/
def Obligations.SetButton : Prop :=
  (∀ s : State, s.inputs = [] → hostPhase s = s) ∧
  (∀ (s : State) (evs : List ButtonEvent) (rest : List (List ButtonEvent)), s.inputs = evs :: rest →
    hostPhase s = evs.foldl (fun t ev => setButton ev t) { s with inputs := rest }) ∧
  ∀ (s t : State) (ev : ButtonEvent), s.dma.active = false → t = setButton ev s →
    (∀ key : Button, t.joypad.buttons.get key = if key = ev.button then ev.pressed else s.joypad.buttons.get key) ∧
    t = { s with
      cpu := { s.cpu with mode := t.cpu.mode }, irq := t.irq, joypad := { s.joypad with buttons := t.joypad.buttons } } ∧
    t.cpu.mode =
      (if ev.pressed = true ∧ s.joypad.buttons.get ev.button = false ∧ s.cpu.mode = .stopped then .running
      else s.cpu.mode) ∧
    t.irq.enable = s.irq.enable ∧
    (t.irq.flag = s.irq.flag ||| 0b10000 ∨ t.irq.flag = s.irq.flag) ∧
    (t.irq.flag.getLsbD 4 = true ↔ s.irq.flag.getLsbD 4 = true ∨
      ∃ n : Nat, n < 4 ∧ (memRead s 0xFF00).getLsbD n = true ∧ (memRead t 0xFF00).getLsbD n = false)

/-- 62_serial_joypad R501, R502, R503: a write to `SC` with bits 7 and 0 set exchanges the byte at once: `SB` takes the
reply, 0x00 with no device, bit 7 clears and the serial interrupt is requested; with bit 0 clear, or bit 7 clear, it only
stores. That an attached device's reply is the free value `Config.serialTransfer` of the bytes sent before and the byte
sent, and that the byte sent is recorded in `sent`, newest first, with a device or without, are the model's choices (log
entry 7). -/
def Obligations.SerialExchange : Prop :=
  ∀ (s : State) (v : Byte), s.dma.active = false →
    (v.getLsbD 7 = true → v.getLsbD 0 = true →
      memWrite 0xFF02 v s =
        { s with
          serial :=
            { sb := serialReply s, transfer := false, internalClock := true, sent := s.serial.sb :: s.serial.sent }
          irq := { s.irq with flag := s.irq.flag ||| 0b01000 } }) ∧
    (s.cfg.serialDevice = .absent → serialReply s = 0x00) ∧
    (s.cfg.serialDevice = .attached → serialReply s = Config.serialTransfer s.serial.sent s.serial.sb) ∧
    (v.getLsbD 7 = false ∨ v.getLsbD 0 = false →
      memWrite 0xFF02 v s =
        { s with serial := { s.serial with transfer := v.getLsbD 7, internalClock := v.getLsbD 0 } })
end

