-- ==== Sys2Proof/Laws/Memory.lean ====
section
/-! SUPPORT. Memory: read after write, and that every memory operation keeps the canonical form. -/

namespace Sys2Proof.Machine

@[simp] theorem Memory.get_nil (k : Nat) : Memory.get [] k = Memory.unlisted := rfl

@[simp] theorem Memory.get_cons (c : Host.Cell) (m : Memory) (k : Nat) :
    Memory.get (c :: m) k = if c.1 = k then c.2 else Memory.get m k := rfl

theorem Memory.get_erase (m : Memory) (k j : Nat) :
    (Memory.erase m k).get j = if j = k then Memory.unlisted else m.get j := by
  induction m with
  | nil => simp [Memory.erase]
  | cons c m ih =>
    simp only [Memory.erase]
    split
    · rename_i h
      rw [ih, Memory.get_cons]
      split <;> simp_all [eq_comm]
    · rename_i h
      simp only [Memory.get_cons, ih]
      split <;> simp_all

theorem Memory.get_insert (m : Memory) (k j : Nat) (v : Byte) (hk : ∀ c ∈ m, c.1 ≠ k) :
    (Memory.insert m k v).get j = if j = k then v else m.get j := by
  induction m with
  | nil => simp [Memory.insert, eq_comm]
  | cons c m ih =>
    have hc := hk c (by simp)
    have ih := ih (fun d hd => hk d (by simp [hd]))
    simp only [Memory.insert]
    split
    · simp [eq_comm]
    · simp only [Memory.get_cons, ih]
      split <;> simp_all

theorem Memory.mem_erase {m : Memory} {k : Nat} {c : Host.Cell} (h : c ∈ Memory.erase m k) : c ∈ m ∧ c.1 ≠ k := by
  induction m with
  | nil => simp [Memory.erase] at h
  | cons d m ih =>
    simp only [Memory.erase] at h
    split at h
    · exact ⟨by simp [(ih h).1], (ih h).2⟩
    · rcases List.mem_cons.mp h with rfl | h
      · exact ⟨by simp, ‹_›⟩
      · exact ⟨by simp [(ih h).1], (ih h).2⟩

/-- The byte read after a write: the value at the address written, what was there before elsewhere. -/
theorem Memory.get_set (m : Memory) (k j : Nat) (v : Byte) :
    (m.set k v).get j = if j = k then v else m.get j := by
  unfold Memory.set
  split
  · rw [Memory.get_erase]
    simp_all
  · rw [Memory.get_insert _ _ _ _ (fun c hc => (Memory.mem_erase hc).2), Memory.get_erase]
    split <;> rfl

@[simp] theorem Memory.get_set_self (m : Memory) (k : Nat) (v : Byte) : (m.set k v).get k = v := by
  simp [Memory.get_set]

theorem Memory.get_set_of_ne (m : Memory) {k j : Nat} (v : Byte) (h : j ≠ k) : (m.set k v).get j = m.get j := by
  simp [Memory.get_set, h]

theorem Memory.mem_insert {m : Memory} {k : Nat} {v : Byte} {c : Host.Cell} (h : c ∈ Memory.insert m k v) :
    c = (k, v) ∨ c ∈ m := by
  induction m with
  | nil => simpa [Memory.insert] using h
  | cons d m ih =>
    simp only [Memory.insert] at h
    split at h
    · simpa using h
    · rcases List.mem_cons.mp h with rfl | h
      · simp
      · rcases ih h with h | h <;> simp [h]

theorem Memory.erase_wf {m : Memory} (h : m.wf) (k : Nat) : (Memory.erase m k).wf := by
  refine ⟨?_, fun c hc => h.2 c (Memory.mem_erase hc).1⟩
  obtain ⟨hp, -⟩ := h
  induction m with
  | nil => simp [Memory.erase]
  | cons d m ih =>
    obtain ⟨hd, hm⟩ := List.pairwise_cons.mp hp
    simp only [Memory.erase]
    split
    · exact ih hm
    · exact List.pairwise_cons.mpr ⟨fun c hc => hd c (Memory.mem_erase hc).1, ih hm⟩

theorem Memory.insert_wf {m : Memory} (h : m.wf) (k : Nat) (v : Byte) (hk : ∀ c ∈ m, c.1 ≠ k)
    (hv : v ≠ Memory.unlisted) : (Memory.insert m k v).wf := by
  refine ⟨?_, fun c hc => ?_⟩
  · obtain ⟨hp, -⟩ := h
    induction m with
    | nil => simp [Memory.insert]
    | cons d m ih =>
      obtain ⟨hd, hm⟩ := List.pairwise_cons.mp hp
      have hne := hk d (by simp)
      simp only [Memory.insert]
      split
      · rename_i hlt
        refine List.pairwise_cons.mpr ⟨fun c hc => ?_, hp⟩
        rcases List.mem_cons.mp hc with rfl | hc
        · exact hlt
        · exact Nat.lt_trans hlt (hd c hc)
      · refine List.pairwise_cons.mpr ⟨fun c hc => ?_, ih (fun c hc => hk c (by simp [hc])) hm⟩
        rcases Memory.mem_insert hc with rfl | hc
        · simp only
          omega
        · exact hd c hc
  · rcases Memory.mem_insert hc with rfl | hc
    · exact hv
    · exact h.2 c hc

/-- A write keeps the canonical form. -/
theorem Memory.set_wf {m : Memory} (h : m.wf) (k : Nat) (v : Byte) : (m.set k v).wf := by
  unfold Memory.set
  split
  · exact Memory.erase_wf h k
  · exact Memory.insert_wf (Memory.erase_wf h k) k v (fun c hc => (Memory.mem_erase hc).2) ‹_›

/-- A write adds no cell but the one written. -/
theorem Memory.mem_set {m : Memory} {k : Nat} {v : Byte} {c : Host.Cell} (h : c ∈ m.set k v) : c.1 = k ∨ c ∈ m := by
  unfold Memory.set at h
  split at h
  · exact .inr (Memory.mem_erase h).1
  · rcases Memory.mem_insert h with rfl | h
    · exact .inl rfl
    · exact .inr (Memory.mem_erase h).1

/-- Cells outside a set of addresses are untouched by a write inside it. -/
theorem Memory.filter_set (m : Memory) (p : Nat → Bool) {k : Nat} (hk : p k = false) (v : Byte) :
    (m.set k v).filter (fun c => p c.1) = m.filter (fun c => p c.1) := by
  have he : ∀ l : Memory, (Memory.erase l k).filter (fun c => p c.1) = l.filter (fun c => p c.1) := by
    intro l
    induction l with
    | nil => rfl
    | cons d l ih =>
      simp only [Memory.erase]
      split
      · rename_i h
        rw [ih, List.filter_cons_of_neg]
        simp [h, hk]
      · simp only [List.filter_cons, ih]
  have hi : ∀ l : Memory, (Memory.insert l k v).filter (fun c => p c.1) = l.filter (fun c => p c.1) := by
    intro l
    induction l with
    | nil => simp [Memory.insert, hk]
    | cons d l ih =>
      simp only [Memory.insert]
      split
      · rw [List.filter_cons_of_neg (by simp [hk])]
      · simp only [List.filter_cons, ih]
  unfold Memory.set
  split
  · exact he m
  · rw [hi, he]

end Sys2Proof.Machine
end

