-- ==== Sys2Proof/Laws/State.lean ====
section
/-! SUPPORT. One lemma per field per named update of the state and of the register file, so that no later proof
unfolds a record update. -/

namespace Sys2Proof.Machine

/-! ### Updates of the state -/

@[simp] theorem onCpu_cpu (g : Cpu → Cpu) (s : State) : (onCpu g s).cpu = g s.cpu := rfl
@[simp] theorem onCpu_irq (g : Cpu → Cpu) (s : State) : (onCpu g s).irq = s.irq := rfl
@[simp] theorem onCpu_timer (g : Cpu → Cpu) (s : State) : (onCpu g s).timer = s.timer := rfl
@[simp] theorem onCpu_ppu (g : Cpu → Cpu) (s : State) : (onCpu g s).ppu = s.ppu := rfl
@[simp] theorem onCpu_serial (g : Cpu → Cpu) (s : State) : (onCpu g s).serial = s.serial := rfl
@[simp] theorem onCpu_joypad (g : Cpu → Cpu) (s : State) : (onCpu g s).joypad = s.joypad := rfl
@[simp] theorem onCpu_dma (g : Cpu → Cpu) (s : State) : (onCpu g s).dma = s.dma := rfl
@[simp] theorem onCpu_mem (g : Cpu → Cpu) (s : State) : (onCpu g s).mem = s.mem := rfl
@[simp] theorem onCpu_cartWrites (g : Cpu → Cpu) (s : State) : (onCpu g s).cartWrites = s.cartWrites := rfl
@[simp] theorem onCpu_bootDisabled (g : Cpu → Cpu) (s : State) : (onCpu g s).bootDisabled = s.bootDisabled := rfl
@[simp] theorem onCpu_cycles (g : Cpu → Cpu) (s : State) : (onCpu g s).cycles = s.cycles := rfl
@[simp] theorem onCpu_diagnostic (g : Cpu → Cpu) (s : State) : (onCpu g s).diagnostic = s.diagnostic := rfl
@[simp] theorem onCpu_elapsed (g : Cpu → Cpu) (s : State) : (onCpu g s).elapsed = s.elapsed := rfl
@[simp] theorem onCpu_inputs (g : Cpu → Cpu) (s : State) : (onCpu g s).inputs = s.inputs := rfl
@[simp] theorem onCpu_cfg (g : Cpu → Cpu) (s : State) : (onCpu g s).cfg = s.cfg := rfl

@[simp] theorem request_cpu (k : IrqSource) (s : State) : (request k s).cpu = s.cpu := rfl
@[simp] theorem request_irq (k : IrqSource) (s : State) : (request k s).irq = { s.irq with flag := s.irq.flag ||| k.mask } := rfl
@[simp] theorem request_timer (k : IrqSource) (s : State) : (request k s).timer = s.timer := rfl
@[simp] theorem request_ppu (k : IrqSource) (s : State) : (request k s).ppu = s.ppu := rfl
@[simp] theorem request_serial (k : IrqSource) (s : State) : (request k s).serial = s.serial := rfl
@[simp] theorem request_joypad (k : IrqSource) (s : State) : (request k s).joypad = s.joypad := rfl
@[simp] theorem request_dma (k : IrqSource) (s : State) : (request k s).dma = s.dma := rfl
@[simp] theorem request_mem (k : IrqSource) (s : State) : (request k s).mem = s.mem := rfl
@[simp] theorem request_cartWrites (k : IrqSource) (s : State) : (request k s).cartWrites = s.cartWrites := rfl
@[simp] theorem request_bootDisabled (k : IrqSource) (s : State) : (request k s).bootDisabled = s.bootDisabled := rfl
@[simp] theorem request_cycles (k : IrqSource) (s : State) : (request k s).cycles = s.cycles := rfl
@[simp] theorem request_diagnostic (k : IrqSource) (s : State) : (request k s).diagnostic = s.diagnostic := rfl
@[simp] theorem request_elapsed (k : IrqSource) (s : State) : (request k s).elapsed = s.elapsed := rfl
@[simp] theorem request_inputs (k : IrqSource) (s : State) : (request k s).inputs = s.inputs := rfl
@[simp] theorem request_cfg (k : IrqSource) (s : State) : (request k s).cfg = s.cfg := rfl

@[simp] theorem acknowledge_cpu (k : IrqSource) (s : State) : (acknowledge k s).cpu = s.cpu := rfl
@[simp] theorem acknowledge_irq (k : IrqSource) (s : State) : (acknowledge k s).irq = { s.irq with flag := s.irq.flag &&& ~~~k.mask } := rfl
@[simp] theorem acknowledge_timer (k : IrqSource) (s : State) : (acknowledge k s).timer = s.timer := rfl
@[simp] theorem acknowledge_ppu (k : IrqSource) (s : State) : (acknowledge k s).ppu = s.ppu := rfl
@[simp] theorem acknowledge_serial (k : IrqSource) (s : State) : (acknowledge k s).serial = s.serial := rfl
@[simp] theorem acknowledge_joypad (k : IrqSource) (s : State) : (acknowledge k s).joypad = s.joypad := rfl
@[simp] theorem acknowledge_dma (k : IrqSource) (s : State) : (acknowledge k s).dma = s.dma := rfl
@[simp] theorem acknowledge_mem (k : IrqSource) (s : State) : (acknowledge k s).mem = s.mem := rfl
@[simp] theorem acknowledge_cartWrites (k : IrqSource) (s : State) : (acknowledge k s).cartWrites = s.cartWrites := rfl
@[simp] theorem acknowledge_bootDisabled (k : IrqSource) (s : State) : (acknowledge k s).bootDisabled = s.bootDisabled := rfl
@[simp] theorem acknowledge_cycles (k : IrqSource) (s : State) : (acknowledge k s).cycles = s.cycles := rfl
@[simp] theorem acknowledge_diagnostic (k : IrqSource) (s : State) : (acknowledge k s).diagnostic = s.diagnostic := rfl
@[simp] theorem acknowledge_elapsed (k : IrqSource) (s : State) : (acknowledge k s).elapsed = s.elapsed := rfl
@[simp] theorem acknowledge_inputs (k : IrqSource) (s : State) : (acknowledge k s).inputs = s.inputs := rfl
@[simp] theorem acknowledge_cfg (k : IrqSource) (s : State) : (acknowledge k s).cfg = s.cfg := rfl

@[simp] theorem requestIf_cpu (b : Bool) (k : IrqSource) (s : State) : (requestIf b k s).cpu = s.cpu := by cases b <;> rfl
@[simp] theorem requestIf_irq (b : Bool) (k : IrqSource) (s : State) : (requestIf b k s).irq = if b then (request k s).irq else s.irq := by cases b <;> rfl
@[simp] theorem requestIf_timer (b : Bool) (k : IrqSource) (s : State) : (requestIf b k s).timer = s.timer := by cases b <;> rfl
@[simp] theorem requestIf_ppu (b : Bool) (k : IrqSource) (s : State) : (requestIf b k s).ppu = s.ppu := by cases b <;> rfl
@[simp] theorem requestIf_serial (b : Bool) (k : IrqSource) (s : State) : (requestIf b k s).serial = s.serial := by cases b <;> rfl
@[simp] theorem requestIf_joypad (b : Bool) (k : IrqSource) (s : State) : (requestIf b k s).joypad = s.joypad := by cases b <;> rfl
@[simp] theorem requestIf_dma (b : Bool) (k : IrqSource) (s : State) : (requestIf b k s).dma = s.dma := by cases b <;> rfl
@[simp] theorem requestIf_mem (b : Bool) (k : IrqSource) (s : State) : (requestIf b k s).mem = s.mem := by cases b <;> rfl
@[simp] theorem requestIf_cartWrites (b : Bool) (k : IrqSource) (s : State) : (requestIf b k s).cartWrites = s.cartWrites := by cases b <;> rfl
@[simp] theorem requestIf_bootDisabled (b : Bool) (k : IrqSource) (s : State) : (requestIf b k s).bootDisabled = s.bootDisabled := by cases b <;> rfl
@[simp] theorem requestIf_cycles (b : Bool) (k : IrqSource) (s : State) : (requestIf b k s).cycles = s.cycles := by cases b <;> rfl
@[simp] theorem requestIf_diagnostic (b : Bool) (k : IrqSource) (s : State) : (requestIf b k s).diagnostic = s.diagnostic := by cases b <;> rfl
@[simp] theorem requestIf_elapsed (b : Bool) (k : IrqSource) (s : State) : (requestIf b k s).elapsed = s.elapsed := by cases b <;> rfl
@[simp] theorem requestIf_inputs (b : Bool) (k : IrqSource) (s : State) : (requestIf b k s).inputs = s.inputs := by cases b <;> rfl
@[simp] theorem requestIf_cfg (b : Bool) (k : IrqSource) (s : State) : (requestIf b k s).cfg = s.cfg := by cases b <;> rfl

@[simp] theorem pokeCell_cpu (k : Nat) (v : Byte) (s : State) : (pokeCell k v s).cpu = s.cpu := rfl
@[simp] theorem pokeCell_irq (k : Nat) (v : Byte) (s : State) : (pokeCell k v s).irq = s.irq := rfl
@[simp] theorem pokeCell_timer (k : Nat) (v : Byte) (s : State) : (pokeCell k v s).timer = s.timer := rfl
@[simp] theorem pokeCell_ppu (k : Nat) (v : Byte) (s : State) : (pokeCell k v s).ppu = s.ppu := rfl
@[simp] theorem pokeCell_serial (k : Nat) (v : Byte) (s : State) : (pokeCell k v s).serial = s.serial := rfl
@[simp] theorem pokeCell_joypad (k : Nat) (v : Byte) (s : State) : (pokeCell k v s).joypad = s.joypad := rfl
@[simp] theorem pokeCell_dma (k : Nat) (v : Byte) (s : State) : (pokeCell k v s).dma = s.dma := rfl
@[simp] theorem pokeCell_mem (k : Nat) (v : Byte) (s : State) : (pokeCell k v s).mem = s.mem.set k v := rfl
@[simp] theorem pokeCell_cartWrites (k : Nat) (v : Byte) (s : State) : (pokeCell k v s).cartWrites = s.cartWrites := rfl
@[simp] theorem pokeCell_bootDisabled (k : Nat) (v : Byte) (s : State) : (pokeCell k v s).bootDisabled = s.bootDisabled := rfl
@[simp] theorem pokeCell_cycles (k : Nat) (v : Byte) (s : State) : (pokeCell k v s).cycles = s.cycles := rfl
@[simp] theorem pokeCell_diagnostic (k : Nat) (v : Byte) (s : State) : (pokeCell k v s).diagnostic = s.diagnostic := rfl
@[simp] theorem pokeCell_elapsed (k : Nat) (v : Byte) (s : State) : (pokeCell k v s).elapsed = s.elapsed := rfl
@[simp] theorem pokeCell_inputs (k : Nat) (v : Byte) (s : State) : (pokeCell k v s).inputs = s.inputs := rfl
@[simp] theorem pokeCell_cfg (k : Nat) (v : Byte) (s : State) : (pokeCell k v s).cfg = s.cfg := rfl

@[simp] theorem cartWrite_cpu (a : Word) (v : Byte) (s : State) : (cartWrite a v s).cpu = s.cpu := rfl
@[simp] theorem cartWrite_irq (a : Word) (v : Byte) (s : State) : (cartWrite a v s).irq = s.irq := rfl
@[simp] theorem cartWrite_timer (a : Word) (v : Byte) (s : State) : (cartWrite a v s).timer = s.timer := rfl
@[simp] theorem cartWrite_ppu (a : Word) (v : Byte) (s : State) : (cartWrite a v s).ppu = s.ppu := rfl
@[simp] theorem cartWrite_serial (a : Word) (v : Byte) (s : State) : (cartWrite a v s).serial = s.serial := rfl
@[simp] theorem cartWrite_joypad (a : Word) (v : Byte) (s : State) : (cartWrite a v s).joypad = s.joypad := rfl
@[simp] theorem cartWrite_dma (a : Word) (v : Byte) (s : State) : (cartWrite a v s).dma = s.dma := rfl
@[simp] theorem cartWrite_mem (a : Word) (v : Byte) (s : State) : (cartWrite a v s).mem = s.mem := rfl
@[simp] theorem cartWrite_cartWrites (a : Word) (v : Byte) (s : State) : (cartWrite a v s).cartWrites = (a, v) :: s.cartWrites := rfl
@[simp] theorem cartWrite_bootDisabled (a : Word) (v : Byte) (s : State) : (cartWrite a v s).bootDisabled = s.bootDisabled := rfl
@[simp] theorem cartWrite_cycles (a : Word) (v : Byte) (s : State) : (cartWrite a v s).cycles = s.cycles := rfl
@[simp] theorem cartWrite_diagnostic (a : Word) (v : Byte) (s : State) : (cartWrite a v s).diagnostic = s.diagnostic := rfl
@[simp] theorem cartWrite_elapsed (a : Word) (v : Byte) (s : State) : (cartWrite a v s).elapsed = s.elapsed := rfl
@[simp] theorem cartWrite_inputs (a : Word) (v : Byte) (s : State) : (cartWrite a v s).inputs = s.inputs := rfl
@[simp] theorem cartWrite_cfg (a : Word) (v : Byte) (s : State) : (cartWrite a v s).cfg = s.cfg := rfl

@[simp] theorem raiseIllegal_cpu (op : Byte) (a : Word) (c : IllegalCause) (s : State) : (raiseIllegal op a c s).cpu = { s.cpu with mode := .locked } := rfl
@[simp] theorem raiseIllegal_irq (op : Byte) (a : Word) (c : IllegalCause) (s : State) : (raiseIllegal op a c s).irq = s.irq := rfl
@[simp] theorem raiseIllegal_timer (op : Byte) (a : Word) (c : IllegalCause) (s : State) : (raiseIllegal op a c s).timer = s.timer := rfl
@[simp] theorem raiseIllegal_ppu (op : Byte) (a : Word) (c : IllegalCause) (s : State) : (raiseIllegal op a c s).ppu = s.ppu := rfl
@[simp] theorem raiseIllegal_serial (op : Byte) (a : Word) (c : IllegalCause) (s : State) : (raiseIllegal op a c s).serial = s.serial := rfl
@[simp] theorem raiseIllegal_joypad (op : Byte) (a : Word) (c : IllegalCause) (s : State) : (raiseIllegal op a c s).joypad = s.joypad := rfl
@[simp] theorem raiseIllegal_dma (op : Byte) (a : Word) (c : IllegalCause) (s : State) : (raiseIllegal op a c s).dma = s.dma := rfl
@[simp] theorem raiseIllegal_mem (op : Byte) (a : Word) (c : IllegalCause) (s : State) : (raiseIllegal op a c s).mem = s.mem := rfl
@[simp] theorem raiseIllegal_cartWrites (op : Byte) (a : Word) (c : IllegalCause) (s : State) : (raiseIllegal op a c s).cartWrites = s.cartWrites := rfl
@[simp] theorem raiseIllegal_bootDisabled (op : Byte) (a : Word) (c : IllegalCause) (s : State) : (raiseIllegal op a c s).bootDisabled = s.bootDisabled := rfl
@[simp] theorem raiseIllegal_cycles (op : Byte) (a : Word) (c : IllegalCause) (s : State) : (raiseIllegal op a c s).cycles = s.cycles := rfl
@[simp] theorem raiseIllegal_diagnostic (op : Byte) (a : Word) (c : IllegalCause) (s : State) : (raiseIllegal op a c s).diagnostic = some { op := op, addr := a, cause := c } := rfl
@[simp] theorem raiseIllegal_elapsed (op : Byte) (a : Word) (c : IllegalCause) (s : State) : (raiseIllegal op a c s).elapsed = s.elapsed := rfl
@[simp] theorem raiseIllegal_inputs (op : Byte) (a : Word) (c : IllegalCause) (s : State) : (raiseIllegal op a c s).inputs = s.inputs := rfl
@[simp] theorem raiseIllegal_cfg (op : Byte) (a : Word) (c : IllegalCause) (s : State) : (raiseIllegal op a c s).cfg = s.cfg := rfl

/-! ### Updates of the register file -/

@[simp] theorem setBc_a (v : Word) (k : Cpu) : (Cpu.setBc v k).a = k.a := rfl
@[simp] theorem setBc_f (v : Word) (k : Cpu) : (Cpu.setBc v k).f = k.f := rfl
@[simp] theorem setBc_b (v : Word) (k : Cpu) : (Cpu.setBc v k).b = hiByte v := rfl
@[simp] theorem setBc_c (v : Word) (k : Cpu) : (Cpu.setBc v k).c = loByte v := rfl
@[simp] theorem setBc_d (v : Word) (k : Cpu) : (Cpu.setBc v k).d = k.d := rfl
@[simp] theorem setBc_e (v : Word) (k : Cpu) : (Cpu.setBc v k).e = k.e := rfl
@[simp] theorem setBc_h (v : Word) (k : Cpu) : (Cpu.setBc v k).h = k.h := rfl
@[simp] theorem setBc_l (v : Word) (k : Cpu) : (Cpu.setBc v k).l = k.l := rfl
@[simp] theorem setBc_sp (v : Word) (k : Cpu) : (Cpu.setBc v k).sp = k.sp := rfl
@[simp] theorem setBc_pc (v : Word) (k : Cpu) : (Cpu.setBc v k).pc = k.pc := rfl
@[simp] theorem setBc_mode (v : Word) (k : Cpu) : (Cpu.setBc v k).mode = k.mode := rfl
@[simp] theorem setBc_ime (v : Word) (k : Cpu) : (Cpu.setBc v k).ime = k.ime := rfl
@[simp] theorem setBc_eiDelay (v : Word) (k : Cpu) : (Cpu.setBc v k).eiDelay = k.eiDelay := rfl
@[simp] theorem setBc_haltBug (v : Word) (k : Cpu) : (Cpu.setBc v k).haltBug = k.haltBug := rfl

@[simp] theorem setDe_a (v : Word) (k : Cpu) : (Cpu.setDe v k).a = k.a := rfl
@[simp] theorem setDe_f (v : Word) (k : Cpu) : (Cpu.setDe v k).f = k.f := rfl
@[simp] theorem setDe_b (v : Word) (k : Cpu) : (Cpu.setDe v k).b = k.b := rfl
@[simp] theorem setDe_c (v : Word) (k : Cpu) : (Cpu.setDe v k).c = k.c := rfl
@[simp] theorem setDe_d (v : Word) (k : Cpu) : (Cpu.setDe v k).d = hiByte v := rfl
@[simp] theorem setDe_e (v : Word) (k : Cpu) : (Cpu.setDe v k).e = loByte v := rfl
@[simp] theorem setDe_h (v : Word) (k : Cpu) : (Cpu.setDe v k).h = k.h := rfl
@[simp] theorem setDe_l (v : Word) (k : Cpu) : (Cpu.setDe v k).l = k.l := rfl
@[simp] theorem setDe_sp (v : Word) (k : Cpu) : (Cpu.setDe v k).sp = k.sp := rfl
@[simp] theorem setDe_pc (v : Word) (k : Cpu) : (Cpu.setDe v k).pc = k.pc := rfl
@[simp] theorem setDe_mode (v : Word) (k : Cpu) : (Cpu.setDe v k).mode = k.mode := rfl
@[simp] theorem setDe_ime (v : Word) (k : Cpu) : (Cpu.setDe v k).ime = k.ime := rfl
@[simp] theorem setDe_eiDelay (v : Word) (k : Cpu) : (Cpu.setDe v k).eiDelay = k.eiDelay := rfl
@[simp] theorem setDe_haltBug (v : Word) (k : Cpu) : (Cpu.setDe v k).haltBug = k.haltBug := rfl

@[simp] theorem setHl_a (v : Word) (k : Cpu) : (Cpu.setHl v k).a = k.a := rfl
@[simp] theorem setHl_f (v : Word) (k : Cpu) : (Cpu.setHl v k).f = k.f := rfl
@[simp] theorem setHl_b (v : Word) (k : Cpu) : (Cpu.setHl v k).b = k.b := rfl
@[simp] theorem setHl_c (v : Word) (k : Cpu) : (Cpu.setHl v k).c = k.c := rfl
@[simp] theorem setHl_d (v : Word) (k : Cpu) : (Cpu.setHl v k).d = k.d := rfl
@[simp] theorem setHl_e (v : Word) (k : Cpu) : (Cpu.setHl v k).e = k.e := rfl
@[simp] theorem setHl_h (v : Word) (k : Cpu) : (Cpu.setHl v k).h = hiByte v := rfl
@[simp] theorem setHl_l (v : Word) (k : Cpu) : (Cpu.setHl v k).l = loByte v := rfl
@[simp] theorem setHl_sp (v : Word) (k : Cpu) : (Cpu.setHl v k).sp = k.sp := rfl
@[simp] theorem setHl_pc (v : Word) (k : Cpu) : (Cpu.setHl v k).pc = k.pc := rfl
@[simp] theorem setHl_mode (v : Word) (k : Cpu) : (Cpu.setHl v k).mode = k.mode := rfl
@[simp] theorem setHl_ime (v : Word) (k : Cpu) : (Cpu.setHl v k).ime = k.ime := rfl
@[simp] theorem setHl_eiDelay (v : Word) (k : Cpu) : (Cpu.setHl v k).eiDelay = k.eiDelay := rfl
@[simp] theorem setHl_haltBug (v : Word) (k : Cpu) : (Cpu.setHl v k).haltBug = k.haltBug := rfl

@[simp] theorem setAf_a (v : Word) (k : Cpu) : (Cpu.setAf v k).a = hiByte v := rfl
@[simp] theorem setAf_f (v : Word) (k : Cpu) : (Cpu.setAf v k).f = Flags.ofByte (loByte v) := rfl
@[simp] theorem setAf_b (v : Word) (k : Cpu) : (Cpu.setAf v k).b = k.b := rfl
@[simp] theorem setAf_c (v : Word) (k : Cpu) : (Cpu.setAf v k).c = k.c := rfl
@[simp] theorem setAf_d (v : Word) (k : Cpu) : (Cpu.setAf v k).d = k.d := rfl
@[simp] theorem setAf_e (v : Word) (k : Cpu) : (Cpu.setAf v k).e = k.e := rfl
@[simp] theorem setAf_h (v : Word) (k : Cpu) : (Cpu.setAf v k).h = k.h := rfl
@[simp] theorem setAf_l (v : Word) (k : Cpu) : (Cpu.setAf v k).l = k.l := rfl
@[simp] theorem setAf_sp (v : Word) (k : Cpu) : (Cpu.setAf v k).sp = k.sp := rfl
@[simp] theorem setAf_pc (v : Word) (k : Cpu) : (Cpu.setAf v k).pc = k.pc := rfl
@[simp] theorem setAf_mode (v : Word) (k : Cpu) : (Cpu.setAf v k).mode = k.mode := rfl
@[simp] theorem setAf_ime (v : Word) (k : Cpu) : (Cpu.setAf v k).ime = k.ime := rfl
@[simp] theorem setAf_eiDelay (v : Word) (k : Cpu) : (Cpu.setAf v k).eiDelay = k.eiDelay := rfl
@[simp] theorem setAf_haltBug (v : Word) (k : Cpu) : (Cpu.setAf v k).haltBug = k.haltBug := rfl

@[simp] theorem setReg8_f (r : Reg8) (v : Byte) (k : Cpu) : (Cpu.setReg8 r v k).f = k.f := by cases r <;> rfl
@[simp] theorem setReg8_sp (r : Reg8) (v : Byte) (k : Cpu) : (Cpu.setReg8 r v k).sp = k.sp := by cases r <;> rfl
@[simp] theorem setReg8_pc (r : Reg8) (v : Byte) (k : Cpu) : (Cpu.setReg8 r v k).pc = k.pc := by cases r <;> rfl
@[simp] theorem setReg8_mode (r : Reg8) (v : Byte) (k : Cpu) : (Cpu.setReg8 r v k).mode = k.mode := by cases r <;> rfl
@[simp] theorem setReg8_ime (r : Reg8) (v : Byte) (k : Cpu) : (Cpu.setReg8 r v k).ime = k.ime := by cases r <;> rfl
@[simp] theorem setReg8_eiDelay (r : Reg8) (v : Byte) (k : Cpu) : (Cpu.setReg8 r v k).eiDelay = k.eiDelay := by cases r <;> rfl
@[simp] theorem setReg8_haltBug (r : Reg8) (v : Byte) (k : Cpu) : (Cpu.setReg8 r v k).haltBug = k.haltBug := by cases r <;> rfl

@[simp] theorem setPair_a (p : Pair) (v : Word) (k : Cpu) : (Cpu.setPair p v k).a = k.a := by cases p <;> rfl
@[simp] theorem setPair_f (p : Pair) (v : Word) (k : Cpu) : (Cpu.setPair p v k).f = k.f := by cases p <;> rfl
@[simp] theorem setPair_pc (p : Pair) (v : Word) (k : Cpu) : (Cpu.setPair p v k).pc = k.pc := by cases p <;> rfl
@[simp] theorem setPair_mode (p : Pair) (v : Word) (k : Cpu) : (Cpu.setPair p v k).mode = k.mode := by cases p <;> rfl
@[simp] theorem setPair_ime (p : Pair) (v : Word) (k : Cpu) : (Cpu.setPair p v k).ime = k.ime := by cases p <;> rfl
@[simp] theorem setPair_eiDelay (p : Pair) (v : Word) (k : Cpu) : (Cpu.setPair p v k).eiDelay = k.eiDelay := by cases p <;> rfl
@[simp] theorem setPair_haltBug (p : Pair) (v : Word) (k : Cpu) : (Cpu.setPair p v k).haltBug = k.haltBug := by cases p <;> rfl

@[simp] theorem setStackPair_sp (p : StackPair) (v : Word) (k : Cpu) : (Cpu.setStackPair p v k).sp = k.sp := by cases p <;> rfl
@[simp] theorem setStackPair_pc (p : StackPair) (v : Word) (k : Cpu) : (Cpu.setStackPair p v k).pc = k.pc := by cases p <;> rfl
@[simp] theorem setStackPair_mode (p : StackPair) (v : Word) (k : Cpu) : (Cpu.setStackPair p v k).mode = k.mode := by cases p <;> rfl
@[simp] theorem setStackPair_ime (p : StackPair) (v : Word) (k : Cpu) : (Cpu.setStackPair p v k).ime = k.ime := by cases p <;> rfl
@[simp] theorem setStackPair_eiDelay (p : StackPair) (v : Word) (k : Cpu) : (Cpu.setStackPair p v k).eiDelay = k.eiDelay := by cases p <;> rfl
@[simp] theorem setStackPair_haltBug (p : StackPair) (v : Word) (k : Cpu) : (Cpu.setStackPair p v k).haltBug = k.haltBug := by cases p <;> rfl

@[simp] theorem afterAddressing_a (m : Addressing) (k : Cpu) : (afterAddressing m k).a = k.a := by cases m <;> rfl
@[simp] theorem afterAddressing_f (m : Addressing) (k : Cpu) : (afterAddressing m k).f = k.f := by cases m <;> rfl
@[simp] theorem afterAddressing_b (m : Addressing) (k : Cpu) : (afterAddressing m k).b = k.b := by cases m <;> rfl
@[simp] theorem afterAddressing_c (m : Addressing) (k : Cpu) : (afterAddressing m k).c = k.c := by cases m <;> rfl
@[simp] theorem afterAddressing_d (m : Addressing) (k : Cpu) : (afterAddressing m k).d = k.d := by cases m <;> rfl
@[simp] theorem afterAddressing_e (m : Addressing) (k : Cpu) : (afterAddressing m k).e = k.e := by cases m <;> rfl
@[simp] theorem afterAddressing_sp (m : Addressing) (k : Cpu) : (afterAddressing m k).sp = k.sp := by cases m <;> rfl
@[simp] theorem afterAddressing_pc (m : Addressing) (k : Cpu) : (afterAddressing m k).pc = k.pc := by cases m <;> rfl
@[simp] theorem afterAddressing_mode (m : Addressing) (k : Cpu) : (afterAddressing m k).mode = k.mode := by cases m <;> rfl
@[simp] theorem afterAddressing_ime (m : Addressing) (k : Cpu) : (afterAddressing m k).ime = k.ime := by cases m <;> rfl
@[simp] theorem afterAddressing_eiDelay (m : Addressing) (k : Cpu) : (afterAddressing m k).eiDelay = k.eiDelay := by cases m <;> rfl
@[simp] theorem afterAddressing_haltBug (m : Addressing) (k : Cpu) : (afterAddressing m k).haltBug = k.haltBug := by cases m <;> rfl

/-! ### Reading back -/

/-- Writing one 8-bit register changes that register and no other (10_state R20). -/
@[simp] theorem reg8_setReg8 (r q : Reg8) (v : Byte) (k : Cpu) :
    (k.setReg8 r v).reg8 q = if q = r then v else k.reg8 q := by
  cases r <;> cases q <;> rfl

end Sys2Proof.Machine
end

