-- ==== Sys2Proof/Laws/Bus.lean ====
section
/-! SUPPORT. What a bus write can change: it leaves the CPU, the parameters, the clock and the host's queues, keeps the
memory canonical, and changes no read but those `writeReaches` names. -/

namespace Sys2Proof.Machine

/-! ### Writes leave everything outside the bus alone -/

/-- The parts of the state that no bus write touches. -/
structure SameCore (s t : State) : Prop where
  cpu : t.cpu = s.cpu
  cfg : t.cfg = s.cfg
  cycles : t.cycles = s.cycles
  diagnostic : t.diagnostic = s.diagnostic
  elapsed : t.elapsed = s.elapsed
  inputs : t.inputs = s.inputs

theorem SameCore.refl (s : State) : SameCore s s := ⟨rfl, rfl, rfl, rfl, rfl, rfl⟩

theorem SameCore.trans {s t u : State} (h : SameCore s t) (k : SameCore t u) : SameCore s u :=
  ⟨k.cpu.trans h.cpu, k.cfg.trans h.cfg, k.cycles.trans h.cycles, k.diagnostic.trans h.diagnostic,
    k.elapsed.trans h.elapsed, k.inputs.trans h.inputs⟩

theorem sameCore_pokeCell (k : Nat) (v : Byte) (s : State) : SameCore s (pokeCell k v s) := ⟨rfl, rfl, rfl, rfl, rfl, rfl⟩

theorem sameCore_requestIf (b : Bool) (k : IrqSource) (s : State) : SameCore s (requestIf b k s) := by
  cases b <;> exact ⟨rfl, rfl, rfl, rfl, rfl, rfl⟩

theorem sameCore_ioWriteReg (v : Byte) (s : State) (r : IoReg) : SameCore s (ioWriteReg v s r) := by
  cases r
  case p1 =>
    exact SameCore.trans (t := { s with joypad := { s.joypad with select := v.extractLsb' 4 2 } })
      ⟨rfl, rfl, rfl, rfl, rfl, rfl⟩ (sameCore_requestIf _ _ _)
  case sc => simp only [ioWriteReg, writeSc]; split <;> exact ⟨rfl, rfl, rfl, rfl, rfl, rfl⟩
  case boot => simp only [ioWriteReg]; split <;> exact ⟨rfl, rfl, rfl, rfl, rfl, rfl⟩
  all_goals exact ⟨rfl, rfl, rfl, rfl, rfl, rfl⟩

theorem sameCore_dmaCopies (base : Word) (is : List Nat) (s : State) :
    SameCore s (is.foldl (dmaCopy base) s) := by
  induction is generalizing s with
  | nil => exact .refl s
  | cons i is ih => exact (sameCore_pokeCell _ _ s).trans (ih _)

theorem sameCore_writeDma (v : Byte) (s : State) : SameCore s (writeDma v s) := by
  unfold writeDma
  cases h : (ioWriteReg v s .dma).cfg.dmaMode
  · simpa only [h] using (sameCore_ioWriteReg v s .dma).trans (sameCore_dmaCopies _ _ _)
  · simp only [h]
    exact (sameCore_ioWriteReg v s .dma).trans ⟨rfl, rfl, rfl, rfl, rfl, rfl⟩

theorem sameCore_ioWrite (a : Word) (v : Byte) (s : State) : SameCore s (ioWrite a v s) := by
  unfold ioWrite
  cases ioRegOf a
  case dma => exact sameCore_writeDma v s
  all_goals exact sameCore_ioWriteReg v s _

/-- A bus write leaves the CPU, the parameters, the clock and the host's fields. -/
theorem sameCore_memWrite (a : Word) (v : Byte) (s : State) : SameCore s (memWrite a v s) := by
  unfold memWrite
  split
  · exact .refl s
  · unfold busWrite
    cases regionOf a
    case io => exact sameCore_ioWrite a v s
    case oam => simp only; split <;> exact ⟨rfl, rfl, rfl, rfl, rfl, rfl⟩
    all_goals exact ⟨rfl, rfl, rfl, rfl, rfl, rfl⟩

@[simp] theorem memWrite_cpu (a : Word) (v : Byte) (s : State) : (memWrite a v s).cpu = s.cpu :=
  (sameCore_memWrite a v s).cpu
@[simp] theorem memWrite_cfg (a : Word) (v : Byte) (s : State) : (memWrite a v s).cfg = s.cfg :=
  (sameCore_memWrite a v s).cfg
@[simp] theorem memWrite_cycles (a : Word) (v : Byte) (s : State) : (memWrite a v s).cycles = s.cycles :=
  (sameCore_memWrite a v s).cycles
@[simp] theorem memWrite_diagnostic (a : Word) (v : Byte) (s : State) :
    (memWrite a v s).diagnostic = s.diagnostic := (sameCore_memWrite a v s).diagnostic
@[simp] theorem memWrite_elapsed (a : Word) (v : Byte) (s : State) : (memWrite a v s).elapsed = s.elapsed :=
  (sameCore_memWrite a v s).elapsed
@[simp] theorem memWrite_inputs (a : Word) (v : Byte) (s : State) : (memWrite a v s).inputs = s.inputs :=
  (sameCore_memWrite a v s).inputs

/-! ### The timed transfer's gate -/

/-- The write that restarts a transfer is never discarded. -/
@[simp] theorem dmaDiscards_dma (s : State) : dmaDiscards s 0xFF46 = false := by simp [dmaDiscards]

/-- At any other address a write is discarded where a read gives 0xFF. -/
theorem dmaDiscards_of_ne (s : State) {a : Word} (h : a ≠ 0xFF46) : dmaDiscards s a = dmaGated s a := by
  unfold dmaDiscards
  rw [bne_iff_ne.mpr h, Bool.and_true]

/-- Where a read is let through, so is a write. -/
theorem dmaDiscards_of_not_gated {s : State} {a : Word} (h : dmaGated s a = false) : dmaDiscards s a = false := by
  simp [dmaDiscards, h]

/-- With no transfer running nothing is gated. -/
theorem dmaGated_of_idle {s : State} (h : s.dma.active = false) (a : Word) : dmaGated s a = false := by
  simp [dmaGated, h]

/-- A write that the gate lets through reaches the bus, any other changes nothing. -/
theorem memWrite_of_not_discarded {s : State} {a : Word} (h : dmaDiscards s a = false) (v : Byte) :
    memWrite a v s = busWrite a v s := by
  simp [memWrite, h]

theorem memWrite_of_discarded {s : State} {a : Word} (h : dmaDiscards s a = true) (v : Byte) : memWrite a v s = s := by
  simp [memWrite, h]

/-! ### Reads and writes look at nothing of the CPU but the pc and the halt-bug bit -/

theorem busReadUngated_onCpu {g : Cpu → Cpu} {s : State} (hpc : (g s.cpu).pc = s.cpu.pc)
    (hbug : (g s.cpu).haltBug = s.cpu.haltBug) (a : Word) : busReadUngated (onCpu g s) a = busReadUngated s a := by
  unfold busReadUngated
  cases regionOf a
  case io =>
    simp only [ioRead]
    cases ioRegOf a
    case audio => simp only [ioReadReg, audioRead, onCpu_cpu, onCpu_cycles, hpc, hbug]
    all_goals rfl
  all_goals rfl

theorem memRead_onCpu {g : Cpu → Cpu} {s : State} (hpc : (g s.cpu).pc = s.cpu.pc)
    (hbug : (g s.cpu).haltBug = s.cpu.haltBug) (a : Word) : memRead (onCpu g s) a = memRead s a := by
  unfold memRead
  rw [busReadUngated_onCpu hpc hbug]
  rfl

theorem ite_elim {α : Type} {P : α → Prop} {c : Prop} [Decidable c] {x y : α} (hx : c → P x) (hy : ¬c → P y) :
    P (if c then x else y) := by
  split <;> simp_all

/-- Where a register stands (10_state R32). -/
def IoReg.At (a : Word) : IoReg → Prop
  | .p1 => a = 0xFF00
  | .sb => a = 0xFF01
  | .sc => a = 0xFF02
  | .div => a = 0xFF04
  | .tima => a = 0xFF05
  | .tma => a = 0xFF06
  | .tac => a = 0xFF07
  | .ifReg => a = 0xFF0F
  | .audio => AudioAddr a
  | .lcdc => a = 0xFF40
  | .stat => a = 0xFF41
  | .scy => a = 0xFF42
  | .scx => a = 0xFF43
  | .ly => a = 0xFF44
  | .lyc => a = 0xFF45
  | .dma => a = 0xFF46
  | .bgp => a = 0xFF47
  | .obp0 => a = 0xFF48
  | .obp1 => a = 0xFF49
  | .wy => a = 0xFF4A
  | .wx => a = 0xFF4B
  | .boot => a = 0xFF50
  | .unmapped => True

/-- The register the decoder gives stands at the address. -/
theorem ioRegOf_at (a : Word) : (ioRegOf a).At a := by
  unfold ioRegOf
  iterate 22 refine ite_elim (P := IoReg.At a) (fun h => h) (fun _ => ?_)
  trivial

theorem audioAddr_of_ioRegOf {a : Word} (h : ioRegOf a = .audio) : AudioAddr a := by
  have := ioRegOf_at a
  rwa [h] at this

/-- Outside the audio registers a read looks at nothing of the CPU. -/
theorem memRead_onCpu_of_not_audio (g : Cpu → Cpu) (s : State) {a : Word} (ha : ¬AudioAddr a) :
    memRead (onCpu g s) a = memRead s a := by
  unfold memRead busReadUngated
  cases regionOf a
  case io =>
    simp only [ioRead]
    cases hr : ioRegOf a
    case audio => exact absurd (audioAddr_of_ioRegOf hr) ha
    all_goals rfl
  all_goals rfl

theorem dmaCopies_onCpu {g : Cpu → Cpu} (hpc : ∀ k, (g k).pc = k.pc) (hbug : ∀ k, (g k).haltBug = k.haltBug)
    (base : Word) (is : List Nat) (s : State) :
    is.foldl (dmaCopy base) (onCpu g s) = onCpu g (is.foldl (dmaCopy base) s) := by
  induction is generalizing s with
  | nil => rfl
  | cons i is ih =>
    have : dmaCopy base (onCpu g s) i = onCpu g (dmaCopy base s i) := by
      unfold dmaCopy
      rw [busReadUngated_onCpu (hpc _) (hbug _)]
      rfl
    simp only [List.foldl_cons, this, ih]

theorem requestIf_onCpu (b : Bool) (k : IrqSource) (g : Cpu → Cpu) (s : State) :
    requestIf b k (onCpu g s) = onCpu g (requestIf b k s) := by
  cases b <;> rfl

theorem ioWriteReg_onCpu (g : Cpu → Cpu) (v : Byte) (s : State) (r : IoReg) :
    ioWriteReg v (onCpu g s) r = onCpu g (ioWriteReg v s r) := by
  cases r
  case p1 =>
    exact requestIf_onCpu _ _ g { s with joypad := { s.joypad with select := v.extractLsb' 4 2 } }
  case sc =>
    simp only [ioWriteReg, writeSc]
    split <;> rfl
  case boot =>
    simp only [ioWriteReg]
    split <;> rfl
  all_goals rfl

theorem writeDma_onCpu {g : Cpu → Cpu} (hpc : ∀ k, (g k).pc = k.pc) (hbug : ∀ k, (g k).haltBug = k.haltBug)
    (v : Byte) (s : State) : writeDma v (onCpu g s) = onCpu g (writeDma v s) := by
  unfold writeDma
  simp only [ioWriteReg_onCpu, onCpu_cfg]
  cases (ioWriteReg v s .dma).cfg.dmaMode
  · exact dmaCopies_onCpu hpc hbug _ _ _
  · rfl

/-- A bus write commutes with a change of the CPU that keeps the pc and the halt-bug bit. -/
theorem memWrite_onCpu {g : Cpu → Cpu} (hpc : ∀ k, (g k).pc = k.pc) (hbug : ∀ k, (g k).haltBug = k.haltBug)
    (a : Word) (v : Byte) (s : State) : memWrite a v (onCpu g s) = onCpu g (memWrite a v s) := by
  have hgate : dmaDiscards (onCpu g s) a = dmaDiscards s a := rfl
  unfold memWrite
  rw [hgate]
  split
  · rfl
  · unfold busWrite
    cases regionOf a
    case io =>
      simp only [ioWrite]
      cases ioRegOf a
      case dma => exact writeDma_onCpu hpc hbug v s
      all_goals exact ioWriteReg_onCpu g v s _
    case oam =>
      have hblock : oamBlocked (onCpu g s) = oamBlocked s := rfl
      simp only [hblock]
      split <;> rfl
    all_goals rfl

/-! ### Addresses -/

/-- The decoder's ranges (20_memory R81). -/
theorem regionOf_range (a : Word) :
    match regionOf a with
    | .bootPage => a.toNat ≤ 0x00FF
    | .cartRom => 0x0100 ≤ a.toNat ∧ a.toNat ≤ 0x7FFF
    | .vram => 0x8000 ≤ a.toNat ∧ a.toNat ≤ 0x9FFF
    | .cartRam => 0xA000 ≤ a.toNat ∧ a.toNat ≤ 0xBFFF
    | .wram => 0xC000 ≤ a.toNat ∧ a.toNat ≤ 0xDFFF
    | .echo => 0xE000 ≤ a.toNat ∧ a.toNat ≤ 0xFDFF
    | .oam => 0xFE00 ≤ a.toNat ∧ a.toNat ≤ 0xFE9F
    | .unusable => 0xFEA0 ≤ a.toNat ∧ a.toNat ≤ 0xFEFF
    | .io => 0xFF00 ≤ a.toNat ∧ a.toNat ≤ 0xFF7F
    | .hram => 0xFF80 ≤ a.toNat ∧ a.toNat ≤ 0xFFFE
    | .ie => a.toNat = 0xFFFF := by
  have ha := a.isLt
  unfold regionOf
  simp only
  split_ifs <;> simp only <;> omega

/-- The cell behind an address of plain storage or OAM holds storage (20_memory R81, R88). -/
theorem storageCell_cellOf {a : Word}
    (h : regionOf a ∈ [Region.vram, Region.wram, Region.echo, Region.oam, Region.hram]) : StorageCell (cellOf a) := by
  have hr := regionOf_range a
  unfold StorageCell cellOf
  cases hreg : regionOf a <;> simp_all <;> omega

/-- The cell of an OAM byte. -/
theorem storageCell_oam {i : Nat} (hi : i < 160) : StorageCell (0xFE00 + i) := by
  unfold StorageCell
  omega

/-! ### Writes keep the memory's form -/

/-- The part of the invariant that speaks of `State.mem`. -/
structure MemOk (m : Memory) : Prop where
  wf : m.wf
  storage : ∀ c ∈ m, StorageCell c.1

theorem MemOk.set {m : Memory} (h : MemOk m) {k : Nat} (hk : StorageCell k) (v : Byte) : MemOk (m.set k v) :=
  ⟨Memory.set_wf h.wf k v, fun c hc => (Memory.mem_set hc).elim (fun e => e ▸ hk) (h.storage c)⟩

theorem memOk_dmaCopies (base : Word) (is : List Nat) (his : ∀ i ∈ is, i < 160) {s : State} (h : MemOk s.mem) :
    MemOk (is.foldl (dmaCopy base) s).mem := by
  induction is generalizing s with
  | nil => exact h
  | cons i is ih =>
    exact ih (fun j hj => his j (by simp [hj])) (h.set (storageCell_oam (his i (by simp))) _)

theorem ioWriteReg_mem (v : Byte) (s : State) (r : IoReg) : (ioWriteReg v s r).mem = s.mem := by
  cases r
  case p1 => simp [ioWriteReg, writeP1, joypadEdge]
  case sc => simp only [ioWriteReg, writeSc]; split <;> rfl
  case boot => simp only [ioWriteReg]; split <;> rfl
  all_goals rfl

theorem memOk_writeDma (v : Byte) {s : State} (h : MemOk s.mem) : MemOk (writeDma v s).mem := by
  unfold writeDma
  cases hm : (ioWriteReg v s .dma).cfg.dmaMode
  · simp only [hm]
    exact memOk_dmaCopies _ _ (fun i hi => List.mem_range.mp hi) (by simpa [ioWriteReg_mem] using h)
  · simp only [hm]
    exact h

/-- A bus write keeps the memory's form. -/
theorem memOk_memWrite (a : Word) (v : Byte) {s : State} (h : MemOk s.mem) : MemOk (memWrite a v s).mem := by
  unfold memWrite
  split
  · exact h
  · unfold busWrite
    cases hr : regionOf a
    case io =>
      simp only [ioWrite]
      cases ioRegOf a
      case dma => exact memOk_writeDma v h
      all_goals simpa only [ioWriteReg_mem] using h
    case oam =>
      simp only
      split
      · exact h
      · exact h.set (storageCell_cellOf (by simp [hr])) v
    case vram => exact h.set (storageCell_cellOf (by simp [hr])) v
    case wram => exact h.set (storageCell_cellOf (by simp [hr])) v
    case echo => exact h.set (storageCell_cellOf (by simp [hr])) v
    case hram => exact h.set (storageCell_cellOf (by simp [hr])) v
    all_goals exact h

/-! ### Which reads a write changes -/

/-- Writing a storage cell changes no read of another cell. -/
theorem busReadUngated_pokeCell (s : State) {k : Nat} (hk : (0x8000 ≤ k ∧ k < 0xA000) ∨ 0xC000 ≤ k) (v : Byte) {a : Word}
    (ha : cellOf a ≠ k) : busReadUngated (pokeCell k v s) a = busReadUngated s a := by
  have hr := regionOf_range a
  have hcart : a.toNat ≠ k → cartRead (pokeCell k v s) a = cartRead s a := by
    intro hne
    unfold cartRead
    cases hw : s.cartWrites with
    | nil => simpa [hw] using Memory.get_set_of_ne s.mem v hne
    | cons w ws =>
      simp only [pokeCell_cartWrites, hw, pokeCell_mem]
      rw [Memory.filter_set s.mem (fun j => j < 0x8000 || 0xA000 ≤ j && j < 0xC000)]
      simp
      omega
  unfold busReadUngated
  cases hreg : regionOf a <;> simp only [hreg] at hr ⊢
  case bootPage =>
    rw [pokeCell_bootDisabled, pokeCell_cfg, hcart (by omega)]
  case cartRom => exact hcart (by omega)
  case cartRam => exact hcart (by omega)
  case io => rfl
  case ie => rfl
  all_goals exact Memory.get_set_of_ne s.mem v ha

theorem busReadUngated_dmaCopies (base : Word) (is : List Nat) (his : ∀ i ∈ is, i < 160) (s : State) {a : Word}
    (ha : regionOf a ≠ .oam) : busReadUngated (is.foldl (dmaCopy base) s) a = busReadUngated s a := by
  induction is generalizing s with
  | nil => rfl
  | cons i is ih =>
    have hi := his i (by simp)
    have hr := regionOf_range a
    refine (ih (fun j hj => his j (by simp [hj])) _).trans (busReadUngated_pokeCell s (by omega) _ ?_)
    unfold cellOf
    cases hreg : regionOf a <;> simp_all <;> omega

/-- What a read outside the I/O page looks at. -/
theorem busReadUngated_congr {s t : State} (a : Word) (hmem : t.mem = s.mem) (hcart : t.cartWrites = s.cartWrites)
    (hboot : regionOf a = .bootPage → t.bootDisabled = s.bootDisabled) (hcfg : t.cfg = s.cfg)
    (hie : t.irq.enable = s.irq.enable) (hio : regionOf a = .io → ioRead t a = ioRead s a) :
    busReadUngated t a = busReadUngated s a := by
  unfold busReadUngated cartRead
  cases hreg : regionOf a
  case io => exact hio hreg
  case bootPage => simp only [hmem, hcart, hboot hreg, hcfg]
  all_goals simp only [hmem, hcart, hcfg, hie]

theorem ioWriteReg_cartWrites (v : Byte) (s : State) (r : IoReg) : (ioWriteReg v s r).cartWrites = s.cartWrites := by
  cases r
  case p1 => simp [ioWriteReg, writeP1, joypadEdge]
  case sc => simp only [ioWriteReg, writeSc]; split <;> rfl
  case boot => simp only [ioWriteReg]; split <;> rfl
  all_goals rfl

theorem ioWriteReg_enable (v : Byte) (s : State) (r : IoReg) : (ioWriteReg v s r).irq.enable = s.irq.enable := by
  cases r
  case p1 => simp only [ioWriteReg, writeP1, joypadEdge, requestIf]; split <;> rfl
  case sc => simp only [ioWriteReg, writeSc]; split <;> rfl
  case boot => simp only [ioWriteReg]; split <;> rfl
  all_goals rfl

theorem ioWriteReg_bootDisabled (v : Byte) (s : State) {r : IoReg} (hr : r ≠ .boot) :
    (ioWriteReg v s r).bootDisabled = s.bootDisabled := by
  cases r
  case p1 => simp [ioWriteReg, writeP1, joypadEdge]
  case sc => simp only [ioWriteReg, writeSc]; split <;> rfl
  case boot => exact absurd rfl hr
  all_goals rfl

/-- A write to a register other than `DMA` changes no other register's read but those `writeReaches` names. -/
theorem ioRead_ioWriteReg (v : Byte) (s : State) {w a : Word} (hw : regionOf w = .io) (hdma : ioRegOf w ≠ .dma)
    (hboot : ioRegOf w ≠ .boot) (h : writeReaches s.cfg w a = false) :
    ioRead (ioWriteReg v s (ioRegOf w)) a = ioRead s a := by
  have hwat := ioRegOf_at w
  have haat := ioRegOf_at a
  have haudio : audioRead (ioWriteReg v s (ioRegOf w)) a = audioRead s a := by
    unfold audioRead
    rw [(sameCore_ioWriteReg v s _).cpu, (sameCore_ioWriteReg v s _).cycles]
  simp only [writeReaches, hw] at h
  unfold ioRead
  cases hwr : ioRegOf w <;> simp only [hwr, IoReg.At] at hwat h haudio
  case dma => exact absurd hwr hdma
  case boot => exact absurd hwr hboot
  case p1 =>
    cases har : ioRegOf a <;> simp only [har, IoReg.At] at haat <;>
      first
      | exact haudio
      | (subst haat; exact absurd h (by decide))
      | (simp only [ioWriteReg, writeP1, joypadEdge, requestIf, ioReadReg]; done)
      | (simp only [ioWriteReg, writeP1, joypadEdge, requestIf, ioReadReg]; split <;> rfl)
  case sc =>
    cases har : ioRegOf a <;> simp only [har, IoReg.At] at haat <;>
      first
      | exact haudio
      | (subst haat; exact absurd h (by decide))
      | (simp only [ioWriteReg, writeSc, ioReadReg]; done)
      | (simp only [ioWriteReg, writeSc, ioReadReg]; split <;> rfl)
  case tac =>
    cases har : ioRegOf a <;> simp only [har, IoReg.At] at haat <;>
      first
      | exact haudio
      | rfl
      | (subst haat; exact absurd h (by decide))
      | (simp only [ioWriteReg, Timer.writeTac, Timer.increment, Timer.readDiv, ioReadReg]; done)
      | (simp only [ioWriteReg, Timer.writeTac, Timer.increment, Timer.readDiv, ioReadReg]; split <;> rfl)
  case lcdc =>
    cases har : ioRegOf a <;> simp only [har, IoReg.At] at haat <;>
      first
      | exact haudio
      | (subst haat; exact absurd h (by decide))
      | rfl
      | (simp only [ioWriteReg, Ppu.writeLcdc, ioReadReg]; done)
      | (simp only [ioWriteReg, Ppu.writeLcdc, ioReadReg]; split <;> rfl)
  all_goals
    cases har : ioRegOf a <;> simp only [har, IoReg.At] at haat <;>
      first
      | exact haudio
      | rfl
      | (subst haat; subst hwat; exact absurd h (by decide))

/-- What a bus write leaves to be read (20_memory R98): every read but those `writeReaches` names. -/
theorem memRead_memWrite_of_not_reaches (v : Byte) (s : State) {w a : Word} (ha : ¬AudioAddr a)
    (h : writeReaches s.cfg w a = false) : memRead (memWrite w v s) a = memRead s a := by
  by_cases hg : dmaDiscards s w = true
  · rw [memWrite_of_discarded hg]
  have hwrite : memWrite w v s = busWrite w v s := memWrite_of_not_discarded (Bool.eq_false_iff.mpr hg) v
  rw [hwrite]
  have key : (busWrite w v s).dma = s.dma → busReadUngated (busWrite w v s) a = busReadUngated s a →
      memRead (busWrite w v s) a = memRead s a := by
    intro hd hb
    have hc : (busWrite w v s).cfg = s.cfg := by rw [← hwrite, memWrite_cfg]
    unfold memRead dmaGated
    rw [hd, hb, hc]
  have hrw := regionOf_range w
  unfold busWrite at key ⊢
  cases hreg : regionOf w <;> simp only [hreg] at hrw key ⊢
  case ie =>
    refine key trivial ?_
    simp only [writeReaches, hreg] at h
    unfold busReadUngated
    cases hra : regionOf a
    case ie =>
      have := regionOf_range a
      simp only [hra] at this
      simp at h
      exact absurd (BitVec.eq_of_toNat_eq this) h
    all_goals rfl
  case bootPage =>
    refine key rfl ?_
    simp only [writeReaches, hreg] at h
    unfold busReadUngated
    cases hra : regionOf a <;> first | rfl | simp [hra] at h
  case cartRom =>
    refine key rfl ?_
    simp only [writeReaches, hreg] at h
    unfold busReadUngated
    cases hra : regionOf a <;> first | rfl | simp [hra] at h
  case cartRam =>
    refine key rfl ?_
    simp only [writeReaches, hreg] at h
    unfold busReadUngated
    cases hra : regionOf a <;> first | rfl | simp [hra] at h
  case io =>
    have hboot : ioRegOf w = .boot → regionOf a ≠ .bootPage := by
      intro hb
      simpa [writeReaches, hreg, hb] using h
    by_cases hdma : ioRegOf w = .dma
    · simp only [ioWrite, hdma] at key ⊢
      simp only [writeReaches, hreg, hdma] at h
      have hcfg : (ioWriteReg v s .dma).cfg = s.cfg := rfl
      have hio : a ≠ 0xFF46 → busReadUngated (ioWriteReg v s .dma) a = busReadUngated s a := by
        intro hne
        refine busReadUngated_congr a rfl rfl (fun _ => rfl) rfl rfl (fun _ => ?_)
        have haat := ioRegOf_at a
        unfold ioRead
        cases har : ioRegOf a <;> simp only [har, IoReg.At] at haat <;> first | rfl | exact absurd haat hne
      unfold writeDma at key ⊢
      cases hm : s.cfg.dmaMode
      · simp only [hm, Bool.or_eq_false_iff, beq_eq_false_iff_ne] at h
        have hgate : ∀ t : State, t.cfg = s.cfg → dmaGated t a = false := by
          intro t ht
          simp [dmaGated, ht, hm]
        have hsame := sameCore_dmaCopies (word v 0) (List.range 160) (ioWriteReg v s .dma)
        simp only [hcfg, hm]
        unfold memRead
        rw [hgate _ hsame.cfg, hgate s rfl, if_neg (by simp), if_neg (by simp)]
        exact (busReadUngated_dmaCopies _ _ (fun i hi => List.mem_range.mp hi) _ h.2).trans (hio h.1)
      · simp only [hm, bne_eq_false_iff_eq] at h
        simp only [hcfg, hm]
        have hgate : ∀ t : State, dmaGated t a = false := by
          intro t
          simp [dmaGated, h]
        unfold memRead
        rw [hgate, hgate, if_neg (by simp), if_neg (by simp)]
        refine Eq.trans ?_ (hio (by rintro rfl; exact absurd h (by decide)))
        unfold busReadUngated
        rw [h]
    · have hwr : ioWrite w v s = ioWriteReg v s (ioRegOf w) := by
        unfold ioWrite
        cases hr : ioRegOf w <;> first | rfl | exact absurd hr hdma
      have hd : (ioWriteReg v s (ioRegOf w)).dma = s.dma := by
        cases hr : ioRegOf w
        case dma => exact absurd hr hdma
        case p1 => simp [ioWriteReg, writeP1, joypadEdge]
        case sc => simp only [ioWriteReg, writeSc]; split <;> rfl
        case boot => simp only [ioWriteReg]; split <;> rfl
        all_goals rfl
      rw [hwr] at key ⊢
      refine key hd (busReadUngated_congr a (ioWriteReg_mem _ _ _) (ioWriteReg_cartWrites _ _ _) (fun hra => ?_)
        (sameCore_ioWriteReg _ _ _).cfg (ioWriteReg_enable _ _ _) (fun hra => ?_))
      · exact ioWriteReg_bootDisabled v s (fun hb => hboot hb hra)
      · by_cases hb : ioRegOf w = .boot
        · have haat := ioRegOf_at a
          unfold ioRead
          rw [hb]
          by_cases hv : v = 0
          · simp only [ioWriteReg, hv, if_true]
          · simp only [ioWriteReg, hv, if_false]
            cases ioRegOf a <;> rfl
        · exact ioRead_ioWriteReg v s hreg hdma hb h
  case oam =>
    split
    · rfl
    · rename_i hblock
      rw [if_neg hblock] at key
      refine key rfl (busReadUngated_pokeCell s ?_ v ?_)
      · simp only [cellOf, hreg]; omega
      · simpa [writeReaches, hreg] using h
  all_goals
    refine key rfl (busReadUngated_pokeCell s ?_ v ?_)
    · simp only [cellOf, hreg]; omega
    · simpa [writeReaches, hreg] using h

end Sys2Proof.Machine
end

