-- ==== Sys2Proof/Laws/Ops.lean ====
section
/-! SUPPORT. What each shared operation of `Machine/Ops.lean` can do, said once: the stack, the interrupt entry, the
parts of the step, and the device phase. -/

namespace Sys2Proof.Machine

@[simp] theorem onCpu_onCpu (f g : Cpu → Cpu) (s : State) : onCpu f (onCpu g s) = onCpu (fun k => f (g k)) s := rfl

theorem done_inj {n : Nat} {s t : State} (h : done n s = .next t) : t = { s with elapsed := n } := by
  cases h
  rfl

/-- A change of `SP` does not matter to a bus write. -/
theorem memWrite_setSp (f : Cpu → Word) (a : Word) (v : Byte) (s : State) :
    memWrite a v (onCpu (fun k => { k with sp := f k }) s) = onCpu (fun k => { k with sp := f k }) (memWrite a v s) :=
  memWrite_onCpu (g := fun k => { k with sp := f k }) (fun _ => rfl) (fun _ => rfl) a v s

/-- The two stores of a push, at `SP-1` and `SP-2`, and the new `SP`. -/
theorem push16_eq (v : Word) (s : State) :
    push16 v s =
      onCpu (fun k => { k with sp := k.sp - 2 })
        (memWrite (s.cpu.sp - 2) (loByte v) (memWrite (s.cpu.sp - 1) (hiByte v) s)) := by
  have h2 : s.cpu.sp - 1 - 1 = s.cpu.sp - 2 := by bv_omega
  have h3 : ∀ w : Word, w - 1 - 1 = w - 2 := fun w => by bv_omega
  simp only [push16, onCpu_cpu, memWrite_cpu]
  rw [memWrite_setSp (fun k => k.sp - 1), memWrite_setSp (fun k => k.sp - 1), memWrite_setSp (fun k => k.sp - 1)]
  simp only [onCpu_onCpu, h2, h3]

/-- The word a pop reads. -/
theorem pop16_fst (s : State) : (pop16 s).1 = word (memRead s (s.cpu.sp + 1)) (memRead s s.cpu.sp) := by
  simp only [pop16, onCpu_cpu]
  rw [memRead_onCpu rfl rfl]

/-- A pop changes `SP` alone. -/
theorem pop16_snd (s : State) : (pop16 s).2 = onCpu (fun k => { k with sp := k.sp + 2 }) s := by
  have h : ∀ w : Word, w + 1 + 1 = w + 2 := fun w => by bv_omega
  simp only [pop16, onCpu_onCpu, h]

/-- `RET`'s effect on the state. -/
theorem returnTo_eq (s : State) :
    returnTo s =
      onCpu (fun k => { k with pc := word (memRead s (s.cpu.sp + 1)) (memRead s s.cpu.sp), sp := k.sp + 2 }) s := by
  have : returnTo s = onCpu (fun k => { k with pc := (pop16 s).1 }) (pop16 s).2 := rfl
  rw [this, pop16_fst, pop16_snd, onCpu_onCpu]

/-- The lowest set bit decides. -/
theorem firstSource_eq (p : BitVec 5) :
    firstSource p =
      if p.getLsbD 0 then some .vblank else if p.getLsbD 1 then some .lcdStat else if p.getLsbD 2 then some .timer
      else if p.getLsbD 3 then some .serial else if p.getLsbD 4 then some .joypad else none := rfl

/-- What an interrupt entry leaves: the push, `IME` clear, and for the first source pending after it the acknowledge and
the vector. -/
theorem serviceInterrupt_eq (s : State) :
    serviceInterrupt s =
      let p := push16 (if s.cpu.haltBug then s.cpu.pc - 1 else s.cpu.pc) (onCpu (fun k => { k with haltBug := false }) s)
      match firstSource (pendingSet p) with
      | none => { p with cpu := { p.cpu with ime := false, pc := 0x0000 }, elapsed := 5 }
      | some k =>
        { p with
          cpu := { p.cpu with ime := false, pc := k.vector }
          irq := { p.irq with flag := p.irq.flag &&& ~~~k.mask }, elapsed := 5 } := by
  unfold serviceInterrupt
  simp only [pendingSet, onCpu_irq]
  generalize push16 _ _ = p
  cases firstSource (p.irq.flag &&& p.irq.enable) <;> rfl

/-- The ways a step begins: over at once with an idle M-cycle or an interrupt entry, or an instruction fetched by a running
CPU with no interrupt to take. -/
theorem beginStep_cases (s : State) :
    (beginStep s = .over { s with elapsed := 1 } ∧
      (s.cpu.mode = .locked ∨ s.cpu.mode = .stopped ∨ (s.cpu.mode = .halted ∧ interruptPending s = false))) ∨
    (beginStep s = .over (serviceInterrupt (onCpu (fun k => { k with mode := .running }) s)) ∧
      (s.cpu.mode = .running ∨ s.cpu.mode = .halted) ∧ interruptPending s = true ∧ s.cpu.ime = true) ∨
    (beginStep s = .fetch (onCpu (fun k => { k with mode := .running }) s) ∧
      (s.cpu.mode = .running ∨ (s.cpu.mode = .halted ∧ interruptPending s = true)) ∧
      ¬(interruptPending s = true ∧ s.cpu.ime = true)) := by
  have hself : s.cpu.mode = .running → onCpu (fun k => { k with mode := .running }) s = s := by
    intro h
    obtain ⟨⟨⟩⟩ := s
    simp_all [onCpu]
  unfold beginStep
  cases hm : s.cpu.mode <;> cases hp : interruptPending s <;> cases hi : s.cpu.ime <;> simp_all

/-- The delayed `EI`, by the counter's value. -/
theorem advanceEiDelay_eq (s : State) :
    advanceEiDelay s =
      if s.cpu.eiDelay = 1 then onCpu (fun k => { k with eiDelay := 0, ime := true }) s
      else if s.cpu.eiDelay = 2 then onCpu (fun k => { k with eiDelay := 1 }) s else s := by
  unfold advanceEiDelay
  by_cases h1 : s.cpu.eiDelay = 1
  · simp [onCpu, h1]
  · by_cases h2 : s.cpu.eiDelay = 2 <;> simp [onCpu, h1, h2]

/-- What holds before and is kept by each application holds after any number of them. -/
theorem repeatN_induct {P : State → Prop} {f : State → State} (h : ∀ s, P s → P (f s)) (n : Nat) :
    ∀ s, P s → P (repeatN n f s) := by
  induction n with
  | zero => exact fun _ hs => hs
  | succ n ih => exact fun s hs => ih _ (h s hs)

/-- A part of the state that each application keeps is kept by any number of them. -/
theorem repeatN_keeps {α : Type} (part : State → α) {f : State → State} (h : ∀ s, part (f s) = part s) (n : Nat)
    (s : State) : part (repeatN n f s) = part s :=
  repeatN_induct (P := fun t => part t = part s) (fun t ht => (h t).trans ht) n s rfl

theorem repeatN_succ (n : Nat) (f : State → State) (s : State) : repeatN (n + 1) f s = f (repeatN n f s) := by
  induction n generalizing s with
  | zero => rfl
  | succ n ih => exact ih (f s)

end Sys2Proof.Machine
end

