-- ==== Sys2Proof/Laws/Ppu.lean ====
section
/-! SUPPORT. The PPU: the framebuffer's lines, what a tick leaves alone, and that ticks and register writes keep the
scanline table and the framebuffer's form. -/

namespace Sys2Proof.Machine

/-! ### The framebuffer -/

@[simp] theorem Framebuffer.row_nil (y : Nat) : Framebuffer.row [] y = List.replicate lineWidth 0 := rfl

@[simp] theorem Framebuffer.row_cons (r : Nat × List Shade) (f : Framebuffer) (y : Nat) :
    Framebuffer.row (r :: f) y = if r.1 = y then r.2 else Framebuffer.row f y := rfl

theorem Framebuffer.row_erase (f : Framebuffer) (y z : Nat) :
    (Framebuffer.erase f y).row z = if z = y then List.replicate lineWidth 0 else f.row z := by
  induction f with
  | nil => simp [Framebuffer.erase]
  | cons r f ih =>
    simp only [Framebuffer.erase]
    split
    · rename_i h
      rw [ih, Framebuffer.row_cons]
      split <;> simp_all [eq_comm]
    · rename_i h
      simp only [Framebuffer.row_cons, ih]
      split <;> simp_all

theorem Framebuffer.mem_erase {f : Framebuffer} {y : Nat} {r : Nat × List Shade} (h : r ∈ Framebuffer.erase f y) :
    r ∈ f ∧ r.1 ≠ y := by
  induction f with
  | nil => simp [Framebuffer.erase] at h
  | cons q f ih =>
    simp only [Framebuffer.erase] at h
    split at h
    · exact ⟨by simp [(ih h).1], (ih h).2⟩
    · rcases List.mem_cons.mp h with rfl | h
      · exact ⟨by simp, ‹_›⟩
      · exact ⟨by simp [(ih h).1], (ih h).2⟩

theorem Framebuffer.row_insert (f : Framebuffer) (y z : Nat) (v : List Shade) (hy : ∀ r ∈ f, r.1 ≠ y) :
    (Framebuffer.insert f y v).row z = if z = y then v else f.row z := by
  induction f with
  | nil => simp [Framebuffer.insert, eq_comm]
  | cons r f ih =>
    have hr := hy r (by simp)
    have ih := ih (fun q hq => hy q (by simp [hq]))
    simp only [Framebuffer.insert]
    split
    · simp [eq_comm]
    · simp only [Framebuffer.row_cons, ih]
      split <;> simp_all

theorem Framebuffer.mem_insert {f : Framebuffer} {y : Nat} {v : List Shade} {r : Nat × List Shade}
    (h : r ∈ Framebuffer.insert f y v) : r = (y, v) ∨ r ∈ f := by
  induction f with
  | nil => simpa [Framebuffer.insert] using h
  | cons q f ih =>
    simp only [Framebuffer.insert] at h
    split at h
    · simpa using h
    · rcases List.mem_cons.mp h with rfl | h
      · simp
      · rcases ih h with h | h <;> simp [h]

/-- The line read after one is overwritten: the new one there, what was there before elsewhere. -/
theorem Framebuffer.row_setRow (f : Framebuffer) (y z : Nat) (v : List Shade) :
    (f.setRow y v).row z = if z = y then v else f.row z := by
  unfold Framebuffer.setRow
  split
  · rw [Framebuffer.row_erase]
    simp_all
  · rw [Framebuffer.row_insert _ _ _ _ (fun r hr => (Framebuffer.mem_erase hr).2), Framebuffer.row_erase]
    split <;> rfl

theorem Framebuffer.erase_wf {f : Framebuffer} (h : f.wf) (y : Nat) : (Framebuffer.erase f y).wf := by
  refine ⟨?_, fun r hr => h.2 r (Framebuffer.mem_erase hr).1⟩
  obtain ⟨hp, -⟩ := h
  induction f with
  | nil => simp [Framebuffer.erase]
  | cons q f ih =>
    obtain ⟨hq, hf⟩ := List.pairwise_cons.mp hp
    simp only [Framebuffer.erase]
    split
    · exact ih hf
    · exact List.pairwise_cons.mpr ⟨fun r hr => hq r (Framebuffer.mem_erase hr).1, ih hf⟩

/-- Overwriting a visible line with 160 shades keeps the form. -/
theorem Framebuffer.setRow_wf {f : Framebuffer} (h : f.wf) {y : Nat} (hy : y < 144) {v : List Shade}
    (hv : v.length = lineWidth) : (f.setRow y v).wf := by
  unfold Framebuffer.setRow
  split
  · exact Framebuffer.erase_wf h y
  · rename_i hne
    have he := Framebuffer.erase_wf h y
    have hk : ∀ r ∈ Framebuffer.erase f y, r.1 ≠ y := fun r hr => (Framebuffer.mem_erase hr).2
    generalize Framebuffer.erase f y = g at he hk
    refine ⟨?_, fun r hr => ?_⟩
    · obtain ⟨hp, -⟩ := he
      induction g with
      | nil => simp [Framebuffer.insert]
      | cons q g ih =>
        obtain ⟨hq, hg⟩ := List.pairwise_cons.mp hp
        have := hk q (by simp)
        simp only [Framebuffer.insert]
        split
        · rename_i hlt
          refine List.pairwise_cons.mpr ⟨fun r hr => ?_, hp⟩
          rcases List.mem_cons.mp hr with rfl | hr
          · exact hlt
          · exact Nat.lt_trans hlt (hq r hr)
        · refine List.pairwise_cons.mpr ⟨fun r hr => ?_, ih (fun r hr => hk r (by simp [hr])) hg⟩
          rcases Framebuffer.mem_insert hr with rfl | hr
          · simp only
            omega
          · exact hq r hr
    · rcases Framebuffer.mem_insert hr with rfl | hr
      · exact ⟨hy, hv, hne⟩
      · exact he.2 r hr

/-! ### What a tick leaves alone -/

/-- The parts of the state that no tick touches (63_ppu R560): all but the PPU's own and the interrupt requests. -/
theorem requestIf_eq (b : Bool) (k : IrqSource) (s : State) :
    requestIf b k s = { s with irq := { s.irq with flag := if b then s.irq.flag ||| k.mask else s.irq.flag } } := by
  cases b <;> rfl

theorem setMode_eq (m : PpuMode) (s : State) :
    setMode m s =
      { s with
        ppu := { s.ppu with mode := m }
        irq := { s.irq with flag := if s.ppu.modeEnabled m then s.irq.flag ||| 0b00010 else s.irq.flag } } := by
  unfold setMode
  rw [requestIf_eq]
  rfl

theorem lyChanged_eq (s : State) :
    lyChanged s =
      { s with
        ppu := { s.ppu with coincidence := decide (s.ppu.ly = s.ppu.lyc) }
        irq :=
          { s.irq with
            flag :=
              if decide (s.ppu.ly = s.ppu.lyc) && s.ppu.statEnables.getLsbD 3 then s.irq.flag ||| 0b00010
              else s.irq.flag } } := by
  unfold lyChanged
  rw [requestIf_eq]
  rfl

/-- A tick changes the PPU and the interrupt requests alone, of the PPU no register a program writes, and no enable. -/
structure TickFrame (s t : State) : Prop where
  rest : t = { s with ppu := t.ppu, irq := t.irq }
  enable : t.irq.enable = s.irq.enable
  ppu : t.ppu =
    { s.ppu with
      ly := t.ppu.ly, mode := t.ppu.mode, dot := t.ppu.dot, coincidence := t.ppu.coincidence
      windowLine := t.ppu.windowLine, fb := t.ppu.fb }

theorem TickFrame.refl (s : State) : TickFrame s s := ⟨rfl, rfl, rfl⟩

theorem TickFrame.trans {s t u : State} (h : TickFrame s t) (k : TickFrame t u) : TickFrame s u := by
  refine ⟨?_, k.enable.trans h.enable, ?_⟩
  · rw [k.rest, h.rest]
  · rw [k.ppu, h.ppu]

theorem TickFrame.setMode (m : PpuMode) (s : State) : TickFrame s (setMode m s) := by
  rw [setMode_eq]
  exact ⟨rfl, rfl, rfl⟩

theorem TickFrame.lyChanged (s : State) : TickFrame s (lyChanged s) := by
  rw [lyChanged_eq]
  exact ⟨rfl, rfl, rfl⟩

theorem TickFrame.composeLine (y : Nat) (s : State) : TickFrame s (composeLine y s) := ⟨rfl, rfl, rfl⟩

theorem TickFrame.nextLine (s : State) : TickFrame s (nextLine s) := by
  have key : ∀ t : State, TickFrame s t →
      TickFrame s
        (if t.ppu.ly = 144 then request .vblank (Machine.setMode .vblank t)
        else if t.ppu.ly < 144 then Machine.setMode .oamScan t else t) := by
    intro t h
    split
    · exact h.trans (TickFrame.trans (.setMode .vblank _) ⟨rfl, rfl, rfl⟩)
    · split
      · exact h.trans (.setMode _ _)
      · exact h
  refine key _ (TickFrame.trans (t := { s with ppu := { s.ppu with dot := 0, ly := _, windowLine := _ } }) ?_
    (.lyChanged _))
  exact ⟨rfl, rfl, rfl⟩

/-- What one tick leaves alone. -/
theorem tickFrame_ppuTick (s : State) : TickFrame s (ppuTick s) := by
  unfold ppuTick
  split
  · exact .refl s
  · dsimp only
    split
    · exact .nextLine s
    · have h : TickFrame s { s with ppu := { s.ppu with dot := s.ppu.dot + 1 } } := ⟨rfl, rfl, rfl⟩
      split
      · exact h.trans (TickFrame.trans (.setMode _ _) (.composeLine _ _))
      · split
        · exact h.trans (.setMode _ _)
        · exact h

@[simp] theorem ppuTick_cpu (s : State) : (ppuTick s).cpu = s.cpu := by rw [(tickFrame_ppuTick s).rest]
@[simp] theorem ppuTick_mem (s : State) : (ppuTick s).mem = s.mem := by rw [(tickFrame_ppuTick s).rest]
@[simp] theorem ppuTick_timer (s : State) : (ppuTick s).timer = s.timer := by rw [(tickFrame_ppuTick s).rest]
@[simp] theorem ppuTick_dma (s : State) : (ppuTick s).dma = s.dma := by rw [(tickFrame_ppuTick s).rest]
@[simp] theorem ppuTick_serial (s : State) : (ppuTick s).serial = s.serial := by rw [(tickFrame_ppuTick s).rest]
@[simp] theorem ppuTick_joypad (s : State) : (ppuTick s).joypad = s.joypad := by rw [(tickFrame_ppuTick s).rest]
@[simp] theorem ppuTick_bootDisabled (s : State) : (ppuTick s).bootDisabled = s.bootDisabled := by
  rw [(tickFrame_ppuTick s).rest]
@[simp] theorem ppuTick_cartWrites (s : State) : (ppuTick s).cartWrites = s.cartWrites := by
  rw [(tickFrame_ppuTick s).rest]

theorem sameCore_ppuTick (s : State) : SameCore s (ppuTick s) := by
  have h := (tickFrame_ppuTick s).rest
  constructor <;> rw [h]

/-! ### The scanline table -/

/-- The part of the invariant that speaks of the PPU. -/
structure PpuOk (p : Ppu) : Prop where
  ly_le : p.ly.toNat ≤ 153
  dot_lt : p.dot < 456
  mode_on : p.lcdc.getLsbD 7 = true → p.mode = modeAt p.ly.toNat p.dot
  mode_off : p.lcdc.getLsbD 7 = false → p.ly = 0 ∧ p.dot = 0 ∧ p.mode = .hblank
  fb_wf : p.fb.wf

/-- A write to `LCDC` keeps it (63_ppu R545). -/
theorem ppuOk_writeLcdc (v : Byte) {p : Ppu} (h : PpuOk p) : PpuOk (p.writeLcdc v) := by
  obtain ⟨h1, h2, h3, h4, h5⟩ := h
  unfold Ppu.writeLcdc
  cases hp : p.lcdc.getLsbD 7 <;> cases hv : v.getLsbD 7 <;> constructor <;> first | exact h5 | simp_all [modeAt]

/-- Where a line ends: the next line, in the mode it starts in (63_ppu R532, R534). -/
theorem nextLine_ppu (s : State) :
    (nextLine s).ppu =
      { s.ppu with
        dot := 0
        ly := if s.ppu.ly + 1 = 154 then 0 else s.ppu.ly + 1
        windowLine := if s.ppu.ly + 1 = 154 then 0 else s.ppu.windowLine
        coincidence := decide ((if s.ppu.ly + 1 = 154 then 0 else s.ppu.ly + 1) = s.ppu.lyc)
        mode :=
          if (if s.ppu.ly + 1 = 154 then 0 else s.ppu.ly + 1) = 144 then .vblank
          else if (if s.ppu.ly + 1 = 154 then 0 else s.ppu.ly + 1) < 144 then .oamScan else s.ppu.mode } := by
  unfold nextLine
  simp only [lyChanged_eq, setMode_eq, request]
  generalize (if s.ppu.ly + 1 = 154 then (0 : Byte) else s.ppu.ly + 1) = l
  by_cases h1 : l = 144
  · simp only [h1, if_true]
  · by_cases h2 : l < 144 <;> simp only [h1, h2, if_true, if_false]

/-- One tick of a running PPU, as the PPU's new state (63_ppu R531-R534). -/
theorem ppuTick_ppu (s : State) (hon : s.ppu.lcdc.getLsbD 7 = true) :
    (ppuTick s).ppu =
      if s.ppu.dot + 1 = 456 then (nextLine s).ppu
      else if s.ppu.ly < 144 ∧ s.ppu.dot + 1 = 80 then
        (composeLine s.ppu.ly.toNat (setMode .drawing { s with ppu := { s.ppu with dot := s.ppu.dot + 1 } })).ppu
      else if s.ppu.ly < 144 ∧ s.ppu.dot + 1 = 252 then { s.ppu with dot := s.ppu.dot + 1, mode := .hblank }
      else { s.ppu with dot := s.ppu.dot + 1 } := by
  unfold ppuTick
  rw [if_neg (by simp [hon])]
  dsimp only
  split
  · rfl
  · split
    · rfl
    · split
      · simp [setMode_eq]
      · rfl

theorem composeLine_ppu (y : Nat) (s : State) :
    (composeLine y s).ppu =
      { s.ppu with
        fb := s.ppu.fb.setRow y ((List.range lineWidth).map (composePixel s (selectSprites s y) y))
        windowLine :=
          if windowDrawn s y && s.cfg.windowLineMode == .counter then s.ppu.windowLine + 1
          else s.ppu.windowLine } := rfl

/-- The state at another dot, mode and interrupt pair. -/
def atDot (d : Nat) (m : PpuMode) (i : Interrupts) (s : State) : State :=
  { s with ppu := { s.ppu with dot := d, mode := m }, irq := i }

theorem leftmostSprite_atDot (d : Nat) (m : PpuMode) (i : Interrupts) (s : State) (objs : List Nat) :
    leftmostSprite (atDot d m i s) objs = leftmostSprite s objs := by
  induction objs with
  | nil => rfl
  | cons k objs ih =>
    have hx : ∀ k, oamByte (atDot d m i s) k 1 = oamByte s k 1 := fun _ => rfl
    simp only [leftmostSprite, ih, hx]

theorem composePixel_atDot (d : Nat) (m : PpuMode) (i : Interrupts) (s : State) (objs : List Nat) (y x : Nat) :
    composePixel (atDot d m i s) objs y x = composePixel s objs y x := by
  have hpix : spritePixel (atDot d m i s) = spritePixel s := rfl
  have hcover : spriteCovers (atDot d m i s) = spriteCovers s := rfl
  have hoam : oamByte (atDot d m i s) = oamByte s := rfl
  have hindex : layerIndex (atDot d m i s) = layerIndex s := rfl
  have hshade : layerShade (atDot d m i s) = layerShade s := rfl
  have hcfg : (atDot d m i s).cfg = s.cfg := rfl
  have h0 : (atDot d m i s).ppu.obp0 = s.ppu.obp0 := rfl
  have h1 : (atDot d m i s).ppu.obp1 = s.ppu.obp1 := rfl
  simp only [composePixel, spriteOver, spriteCandidate, leftmostSprite_atDot, hpix, hcover, hoam, hindex, hshade, hcfg,
    h0, h1]

/-- Composition looks at neither the dot, the mode nor the interrupts. -/
theorem composeLine_atDot (y d : Nat) (m : PpuMode) (i : Interrupts) (s : State) :
    composeLine y (atDot d m i s) = atDot d m i (composeLine y s) := by
  have hsprites : selectSprites (atDot d m i s) y = selectSprites s y := rfl
  have hwin : windowDrawn (atDot d m i s) y = windowDrawn s y := rfl
  have hpix : composePixel (atDot d m i s) = composePixel s := by
    funext objs y x
    exact composePixel_atDot d m i s objs y x
  unfold composeLine
  rw [hsprites, hwin, hpix]
  rfl

/-- The tick that composes a line (63_ppu R532, R550). -/
theorem ppuTick_ppu_of_dot_79 {s : State} (hon : s.ppu.lcdc.getLsbD 7 = true) (hly : s.ppu.ly.toNat < 144)
    (hdot : s.ppu.dot = 79) :
    (ppuTick s).ppu = { (composeLine s.ppu.ly.toNat s).ppu with dot := 80, mode := .drawing } := by
  have hlt : s.ppu.ly < 144 := by simpa [BitVec.lt_def] using hly
  rw [ppuTick_ppu s hon, if_neg (by omega), if_pos ⟨hlt, by omega⟩, setMode_eq, hdot]
  exact congrArg State.ppu (composeLine_atDot _ 80 .drawing _ s)

/-- Any other tick leaves the framebuffer, and the window counter but for the end of line 153 (63_ppu R532, R554). -/
theorem ppuTick_fb_of_dot_ne_79 {s : State} (hon : s.ppu.lcdc.getLsbD 7 = true)
    (h : ¬(s.ppu.ly.toNat < 144 ∧ s.ppu.dot = 79)) :
    (ppuTick s).ppu.fb = s.ppu.fb ∧
      (ppuTick s).ppu.windowLine = if s.ppu.ly.toNat = 153 ∧ s.ppu.dot = 455 then 0 else s.ppu.windowLine := by
  have hlt : s.ppu.ly < 144 ↔ s.ppu.ly.toNat < 144 := by simp [BitVec.lt_def]
  have h154 : s.ppu.ly + 1 = 154 ↔ s.ppu.ly.toNat = 153 := by bv_omega
  have h80 : ¬(s.ppu.ly < 144 ∧ s.ppu.dot + 1 = 80) := fun hc => h ⟨hlt.mp hc.1, by omega⟩
  rw [ppuTick_ppu s hon, if_neg h80, nextLine_ppu]
  by_cases hd : s.ppu.dot = 455
  · simp only [hd, h154, if_true, and_true, and_self]
  · rw [if_neg (by omega)]
    split <;> simp [hd]

/-- A tick keeps the scanline table and the framebuffer's form. -/
theorem ppuOk_ppuTick {s : State} (h : PpuOk s.ppu) : PpuOk (ppuTick s).ppu := by
  by_cases hon : s.ppu.lcdc.getLsbD 7 = true
  swap
  · have : ppuTick s = s := by
      unfold ppuTick
      rw [if_pos (by simpa using hon)]
    rwa [this]
  obtain ⟨h1, h2, h3, h4, h5⟩ := h
  have hm := h3 hon
  have hlt : s.ppu.ly < 144 ↔ s.ppu.ly.toNat < 144 := by simp [BitVec.lt_def]
  have h154 : s.ppu.ly + 1 = 154 ↔ s.ppu.ly.toNat = 153 := by bv_omega
  have hnext : s.ppu.ly.toNat ≠ 153 → (s.ppu.ly + 1).toNat = s.ppu.ly.toNat + 1 := by bv_omega
  rw [ppuTick_ppu s hon]
  split
  · rename_i hd
    rw [nextLine_ppu]
    by_cases hw : s.ppu.ly.toNat = 153
    · constructor <;> first | exact h5 | simp_all [modeAt]
    · have hn := hnext hw
      have h144 : s.ppu.ly + 1 = 144 ↔ s.ppu.ly.toNat = 143 := by bv_omega
      have hl144 : s.ppu.ly + 1 < 144 ↔ s.ppu.ly.toNat < 143 := by bv_omega
      refine ⟨?_, ?_, ?_, ?_, h5⟩
      · simp only [h154, hw, if_false, hn]
        omega
      · simp
      · intro _
        simp only [h154, hw, if_false, hn, h144, hl144]
        have hdot : s.ppu.dot = 455 := by omega
        rw [hm, hdot]
        unfold modeAt
        split_ifs <;> first | rfl | omega
      · intro hoff
        cases hon.symm.trans hoff
  · rename_i hd
    simp only [hlt]
    split
    · rename_i h80
      rw [composeLine_ppu, setMode_eq]
      refine ⟨h1, ?_, fun _ => ?_, fun hoff => ?_, Framebuffer.setRow_wf h5 h80.1 (by simp)⟩
      · show s.ppu.dot + 1 < 456
        omega
      · show PpuMode.drawing = modeAt s.ppu.ly.toNat (s.ppu.dot + 1)
        unfold modeAt
        split_ifs <;> first | rfl | omega
      · cases hon.symm.trans hoff
    · rename_i h80
      split
      · rename_i h252
        refine ⟨h1, ?_, fun _ => ?_, fun hoff => ?_, h5⟩
        · show s.ppu.dot + 1 < 456
          omega
        · show PpuMode.hblank = modeAt s.ppu.ly.toNat (s.ppu.dot + 1)
          unfold modeAt
          split_ifs <;> first | rfl | omega
        · cases hon.symm.trans hoff
      · rename_i h252
        refine ⟨h1, ?_, fun _ => ?_, fun hoff => ?_, h5⟩
        · show s.ppu.dot + 1 < 456
          omega
        · show s.ppu.mode = modeAt s.ppu.ly.toNat (s.ppu.dot + 1)
          rw [hm]
          unfold modeAt
          split_ifs <;> first | rfl | omega
        · cases hon.symm.trans hoff

end Sys2Proof.Machine
end

