-- ==== Sys2Proof/Laws/Devices.lean ====
section
/-! SUPPORT. The device phase and the host phase: what they leave alone, and that every operation on the memory keeps its
form and every one on the PPU its scanline table. -/

namespace Sys2Proof.Machine

/-! ### The timer -/

/-- One M-cycle of the timer changes the timer and the requests alone (61_timer R472). -/
theorem timerMCycle_eq (s : State) :
    timerMCycle s =
      { s with
        timer :=
          (if s.timer.overflowPending then { s.timer with tima := s.timer.tma, overflowPending := false }
          else s.timer).advance
        irq := { s.irq with flag := if s.timer.overflowPending then s.irq.flag ||| 0b00100 else s.irq.flag } } := by
  unfold timerMCycle
  split <;> rfl

@[simp] theorem timerMCycle_cpu (s : State) : (timerMCycle s).cpu = s.cpu := by rw [timerMCycle_eq]
@[simp] theorem timerMCycle_mem (s : State) : (timerMCycle s).mem = s.mem := by rw [timerMCycle_eq]
@[simp] theorem timerMCycle_ppu (s : State) : (timerMCycle s).ppu = s.ppu := by rw [timerMCycle_eq]
@[simp] theorem timerMCycle_dma (s : State) : (timerMCycle s).dma = s.dma := by rw [timerMCycle_eq]
@[simp] theorem timerMCycle_serial (s : State) : (timerMCycle s).serial = s.serial := by rw [timerMCycle_eq]
@[simp] theorem timerMCycle_cartWrites (s : State) : (timerMCycle s).cartWrites = s.cartWrites := by
  rw [timerMCycle_eq]
@[simp] theorem timerMCycle_bootDisabled (s : State) : (timerMCycle s).bootDisabled = s.bootDisabled := by
  rw [timerMCycle_eq]

theorem sameCore_timerMCycle (s : State) : SameCore s (timerMCycle s) := by
  rw [timerMCycle_eq]
  exact ⟨rfl, rfl, rfl, rfl, rfl, rfl⟩

/-! ### The timed DMA -/

/-- One M-cycle of the timed engine: one byte of OAM and the engine's state, or nothing (20_memory R102). -/
theorem dmaMCycle_eq (s : State) :
    dmaMCycle s =
      if s.cfg.dmaMode = .timed ∧ s.dma.active = true then
        { s with
          mem := s.mem.set (0xFE00 + s.dma.index) (busReadUngated s (s.dma.source + BitVec.ofNat 16 s.dma.index))
          dma := { s.dma with index := s.dma.index + 1, active := s.dma.index + 1 != 160 } }
      else s := by
  unfold dmaMCycle
  by_cases h : s.cfg.dmaMode = .timed ∧ s.dma.active = true
  · rw [if_pos h, if_pos (by simp [h.1, h.2])]
    rfl
  · rw [if_neg h, if_neg (by simpa using h)]

theorem sameCore_dmaMCycle (s : State) : SameCore s (dmaMCycle s) := by
  rw [dmaMCycle_eq]
  split <;> exact ⟨rfl, rfl, rfl, rfl, rfl, rfl⟩

@[simp] theorem dmaMCycle_cpu (s : State) : (dmaMCycle s).cpu = s.cpu := (sameCore_dmaMCycle s).cpu
@[simp] theorem dmaMCycle_ppu (s : State) : (dmaMCycle s).ppu = s.ppu := by rw [dmaMCycle_eq]; split <;> rfl
@[simp] theorem dmaMCycle_timer (s : State) : (dmaMCycle s).timer = s.timer := by rw [dmaMCycle_eq]; split <;> rfl
@[simp] theorem dmaMCycle_irq (s : State) : (dmaMCycle s).irq = s.irq := by rw [dmaMCycle_eq]; split <;> rfl
@[simp] theorem dmaMCycle_serial (s : State) : (dmaMCycle s).serial = s.serial := by rw [dmaMCycle_eq]; split <;> rfl
@[simp] theorem dmaMCycle_cartWrites (s : State) : (dmaMCycle s).cartWrites = s.cartWrites := by
  rw [dmaMCycle_eq]; split <;> rfl
@[simp] theorem dmaMCycle_bootDisabled (s : State) : (dmaMCycle s).bootDisabled = s.bootDisabled := by
  rw [dmaMCycle_eq]; split <;> rfl

/-- Only a timed transfer in progress, with bytes left to copy. -/
def DmaOk (s : State) : Prop := s.dma.active = true → s.cfg.dmaMode = .timed ∧ s.dma.index < 160

theorem dmaOk_dmaMCycle {s : State} (h : DmaOk s) : DmaOk (dmaMCycle s) := by
  unfold DmaOk
  rw [dmaMCycle_eq]
  split
  · rename_i hc
    have := (h hc.2).2
    simp only [bne_iff_ne, ne_eq]
    exact fun hne => ⟨hc.1, by omega⟩
  · exact h

/-! ### The device phase -/

theorem sameCore_repeatN {f : State → State} (h : ∀ s, SameCore s (f s)) (n : Nat) (s : State) :
    SameCore s (repeatN n f s) :=
  repeatN_induct (P := SameCore s) (fun t ht => ht.trans (h t)) n s (.refl s)

theorem sameCore_deviceMCycle (s : State) : SameCore s (deviceMCycle s) := by
  unfold deviceMCycle
  split
  · exact sameCore_dmaMCycle s
  · exact (sameCore_repeatN sameCore_ppuTick 4 s).trans
      ((sameCore_timerMCycle _).trans (sameCore_dmaMCycle _))

/-- The device phase leaves the CPU, the parameters, the report, the count and the queue, and advances the clock by four
times the count (64_scheduler R600). -/
structure DevicesFrame (s t : State) : Prop where
  cpu : t.cpu = s.cpu
  cfg : t.cfg = s.cfg
  cycles : t.cycles = s.cycles + 4 * s.elapsed
  diagnostic : t.diagnostic = s.diagnostic
  elapsed : t.elapsed = s.elapsed
  inputs : t.inputs = s.inputs

theorem devicesFrame_runDevices (s : State) : DevicesFrame s (runDevices s) := by
  obtain ⟨h1, h2, h3, h4, h5, h6⟩ := sameCore_repeatN sameCore_deviceMCycle s.elapsed s
  exact ⟨h1, h2, congrArg (· + 4 * s.elapsed) h3, h4, h5, h6⟩

/-- What the devices' M-cycles keep, the device phase keeps, if it does not speak of the clock. -/
theorem runDevices_induct {P : State → Prop} (hppu : ∀ s, P s → P (ppuTick s)) (htimer : ∀ s, P s → P (timerMCycle s))
    (hdma : ∀ s, P s → P (dmaMCycle s)) (hcycles : ∀ (s : State) (n : Nat), P s → P { s with cycles := n }) (s : State)
    (h : P s) : P (runDevices s) := by
  refine hcycles _ _ (repeatN_induct (fun t ht => ?_) s.elapsed s h)
  unfold deviceMCycle
  split
  · exact hdma _ ht
  · exact hdma _ (htimer _ (repeatN_induct hppu 4 _ ht))

/-- The device phase, as 64_scheduler R600 and R601 write it. -/
theorem repeatN_deviceMCycle (n : Nat) (s : State) : repeatN n deviceMCycle s = devicesAfter s n := by
  induction n with
  | zero => rfl
  | succ n ih => rw [repeatN_succ, ih]; rfl

theorem runDevices_eq (s : State) :
    runDevices s = { devicesAfter s s.elapsed with cycles := (devicesAfter s s.elapsed).cycles + 4 * s.elapsed } := by
  rw [← repeatN_deviceMCycle]
  rfl

/-! ### The host phase -/

/-- One call of `set_button`: the key, the joypad request if a visible line falls, and the wake of a stopped CPU
(62_serial_joypad R511, R512, R513). -/
theorem setButton_eq (ev : ButtonEvent) (s : State) :
    setButton ev s =
      let j := { s.joypad with buttons := s.joypad.buttons.set ev.button ev.pressed }
      { s with
        cpu :=
          { s.cpu with
            mode := if ev.pressed && !s.joypad.buttons.get ev.button && s.cpu.mode == .stopped then .running
              else s.cpu.mode }
        irq :=
          { s.irq with
            flag := if s.joypad.lines &&& ~~~j.lines != 0 then s.irq.flag ||| 0b10000 else s.irq.flag }
        joypad := j } := by
  unfold setButton joypadEdge
  simp only [requestIf_eq]
  split <;> rfl

/-- It changes the keys, the requests and the mode alone. -/
theorem setButton_frame (ev : ButtonEvent) (s : State) :
    setButton ev s =
      { s with
        cpu := { s.cpu with mode := (setButton ev s).cpu.mode }
        irq := { s.irq with flag := (setButton ev s).irq.flag }
        joypad := { s.joypad with buttons := s.joypad.buttons.set ev.button ev.pressed } } := by
  rw [setButton_eq]

/-- It may wake a stopped CPU, and changes the mode no other way. -/
theorem setButton_mode (ev : ButtonEvent) (s : State) :
    (setButton ev s).cpu.mode = s.cpu.mode ∨ (s.cpu.mode = .stopped ∧ (setButton ev s).cpu.mode = .running) := by
  rw [setButton_eq]
  dsimp only
  split
  · rename_i h
    exact .inr ⟨by simpa using (Bool.and_eq_true_iff.mp h).2, rfl⟩
  · exact .inl rfl

/-- With nothing queued the host phase does nothing. -/
theorem hostPhase_of_nil {s : State} (h : s.inputs = []) : hostPhase s = s := by
  unfold hostPhase
  rw [h]

/-- Otherwise it makes the calls at the head of the queue, in order, and drops them (64_scheduler R604). -/
theorem hostPhase_of_cons {s : State} {evs : List ButtonEvent} {rest : List (List ButtonEvent)}
    (h : s.inputs = evs :: rest) :
    hostPhase s = evs.foldl (fun t ev => setButton ev t) { s with inputs := rest } := by
  unfold hostPhase
  rw [h]

/-- What `set_button` keeps, the host phase keeps, if it does not speak of the queue. -/
theorem hostPhase_induct {P : State → Prop} (h : ∀ ev s, P s → P (setButton ev s))
    (hinputs : ∀ (s : State) (q : List (List ButtonEvent)), P s → P { s with inputs := q }) (s : State) (hs : P s) :
    P (hostPhase s) := by
  unfold hostPhase
  split
  · exact hs
  · rename_i evs rest heq
    clear heq
    have hq := hinputs s rest hs
    generalize { s with inputs := rest } = t at hq
    induction evs generalizing t with
    | nil => exact hq
    | cons ev evs ih => exact ih _ (h ev t hq)

/-! ### The memory's form is kept by everything -/

theorem memOk_push16 (v : Word) {s : State} (h : MemOk s.mem) : MemOk (push16 v s).mem := by
  rw [push16_eq]
  exact memOk_memWrite _ _ (memOk_memWrite _ _ h)

theorem memOk_memWrite16 (a v : Word) {s : State} (h : MemOk s.mem) : MemOk (memWrite16 a v s).mem :=
  memOk_memWrite _ _ (memOk_memWrite _ _ h)

theorem memOk_writeOperand (o : Operand8) (v : Byte) {s : State} (h : MemOk s.mem) : MemOk (writeOperand o v s).mem := by
  cases o
  · exact h
  · exact memOk_memWrite _ _ h

theorem memOk_serviceInterrupt {s : State} (h : MemOk s.mem) : MemOk (serviceInterrupt s).mem := by
  rw [serviceInterrupt_eq]
  dsimp only
  have hp := memOk_push16 (if s.cpu.haltBug then s.cpu.pc - 1 else s.cpu.pc)
    (s := onCpu (fun k => { k with haltBug := false }) s) h
  split <;> exact hp

theorem memOk_dmaMCycle {s : State} (h : MemOk s.mem) (hd : DmaOk s) : MemOk (dmaMCycle s).mem := by
  rw [dmaMCycle_eq]
  split
  · rename_i hc
    exact h.set (storageCell_oam (hd hc.2).2) _
  · exact h

/-- The device phase keeps the memory's form and the timed transfer's. -/
theorem memOk_runDevices {s : State} (h : MemOk s.mem) (hd : DmaOk s) :
    MemOk (runDevices s).mem ∧ DmaOk (runDevices s) := by
  refine runDevices_induct (P := fun t => MemOk t.mem ∧ DmaOk t) (fun t ht => ?_) (fun t ht => ?_)
    (fun t ht => ⟨memOk_dmaMCycle ht.1 ht.2, dmaOk_dmaMCycle ht.2⟩) (fun t n ht => ht) s ⟨h, hd⟩
  · refine ⟨by simpa using ht.1, ?_⟩
    unfold DmaOk
    rw [ppuTick_dma, (sameCore_ppuTick t).cfg]
    exact ht.2
  · refine ⟨by simpa using ht.1, ?_⟩
    unfold DmaOk
    rw [timerMCycle_dma, (sameCore_timerMCycle t).cfg]
    exact ht.2

theorem memOk_hostPhase {s : State} (h : MemOk s.mem) : MemOk (hostPhase s).mem :=
  hostPhase_induct (P := fun t => MemOk t.mem) (fun ev t ht => by rw [setButton_frame]; exact ht) (fun _ _ ht => ht) s h

/-- Reset memory has the form, under every parameter. -/
theorem memOk_reset (p : Params) : MemOk (State.resetWith p).mem := by
  have : (State.resetWith p).mem = [] := by
    unfold State.resetWith State.resetFrom
    cases p.resetProfile <;> rfl
  rw [this]
  exact ⟨by decide, fun c hc => by cases hc⟩

/-! ### The scanline table is kept by everything -/

/-- A bus write keeps it: only `LCDC` moves the PPU, all other writes leave the line, the dot, the mode and the
framebuffer. -/
theorem ppuOk_ioWriteReg (v : Byte) {s : State} (r : IoReg) (h : PpuOk s.ppu) : PpuOk (ioWriteReg v s r).ppu := by
  cases r
  case lcdc => exact ppuOk_writeLcdc v h
  case p1 =>
    simp only [ioWriteReg, writeP1, joypadEdge, requestIf_eq]
    exact h
  case sc =>
    simp only [ioWriteReg, writeSc]
    split <;> exact h
  case boot =>
    simp only [ioWriteReg]
    split <;> exact h
  all_goals exact ⟨h.ly_le, h.dot_lt, h.mode_on, h.mode_off, h.fb_wf⟩

theorem dmaCopies_ppu (base : Word) (is : List Nat) (s : State) : (is.foldl (dmaCopy base) s).ppu = s.ppu := by
  induction is generalizing s with
  | nil => rfl
  | cons i is ih => exact ih _

theorem ppuOk_memWrite (a : Word) (v : Byte) {s : State} (h : PpuOk s.ppu) : PpuOk (memWrite a v s).ppu := by
  unfold memWrite
  split
  · exact h
  · unfold busWrite
    cases regionOf a
    case io =>
      simp only [ioWrite]
      cases ioRegOf a
      case dma =>
        simp only [writeDma]
        split
        · rw [dmaCopies_ppu]
          exact ppuOk_ioWriteReg v .dma h
        · exact ppuOk_ioWriteReg v .dma h
      all_goals exact ppuOk_ioWriteReg v _ h
    case oam =>
      simp only
      split <;> exact h
    all_goals exact h

theorem ppuOk_push16 (v : Word) {s : State} (h : PpuOk s.ppu) : PpuOk (push16 v s).ppu := by
  rw [push16_eq]
  exact ppuOk_memWrite _ _ (ppuOk_memWrite _ _ h)

theorem ppuOk_serviceInterrupt {s : State} (h : PpuOk s.ppu) : PpuOk (serviceInterrupt s).ppu := by
  rw [serviceInterrupt_eq]
  dsimp only
  have hp := ppuOk_push16 (if s.cpu.haltBug then s.cpu.pc - 1 else s.cpu.pc)
    (s := onCpu (fun k => { k with haltBug := false }) s) h
  split <;> exact hp

theorem ppuOk_runDevices {s : State} (h : PpuOk s.ppu) : PpuOk (runDevices s).ppu :=
  runDevices_induct (P := fun t => PpuOk t.ppu) (fun _ ht => ppuOk_ppuTick ht) (fun t ht => by simpa using ht)
    (fun t ht => by simpa using ht) (fun _ _ ht => ht) s h

theorem ppuOk_hostPhase {s : State} (h : PpuOk s.ppu) : PpuOk (hostPhase s).ppu :=
  hostPhase_induct (P := fun t => PpuOk t.ppu) (fun ev t ht => by rw [setButton_frame]; exact ht) (fun _ _ ht => ht) s h

end Sys2Proof.Machine
end

