-- ==== Sys2Proof/Laws/Families.lean ====
section
/-! SUPPORT. The instructions by family: a case analysis over the families instead of the 512 constructors, and what
`exec` and `encode` are on each family. -/

namespace Sys2Proof

open Machine

/-- To show something of every instruction, show it of every family. -/
theorem Instr.family_cases {P : Instr → Prop}
    (ldReg : ∀ (r : Reg8) (o : Operand8), P (instrLd (.reg r) o))
    (ldAtHl : ∀ (r : Reg8), P (instrLd .atHl (.reg r)))
    (ldImm : ∀ (o : Operand8) (n : Byte), P (instrLdImm o n))
    (loadA : ∀ (m : Addressing), P (loadAInstr m))
    (storeA : ∀ (m : Addressing), P (storeAInstr m))
    (ldPair : ∀ (p : Pair) (nn : Word), P (instrLdPair p nn))
    (storeSp : ∀ (nn : Word), P (.ld_at_nn_sp nn))
    (ldSpHl : P (.ld_sp_hl))
    (push : ∀ (p : StackPair), P (instrPush p))
    (pop : ∀ (p : StackPair), P (instrPop p))
    (alu : ∀ (op : AluOp) (src : Source8), P (aluInstr op src))
    (inc : ∀ (o : Operand8), P (instrInc o))
    (dec : ∀ (o : Operand8), P (instrDec o))
    (daa : P (.daa))
    (cpl : P (.cpl))
    (scf : P (.scf))
    (ccf : P (.ccf))
    (incPair : ∀ (p : Pair), P (instrIncPair p))
    (decPair : ∀ (p : Pair), P (instrDecPair p))
    (addHl : ∀ (p : Pair), P (instrAddHl p))
    (addSp : ∀ (e : Byte), P (.add_sp_e e))
    (ldHlSp : ∀ (e : Byte), P (.ld_hl_sp_e e))
    (rlca : P (.rlca))
    (rrca : P (.rrca))
    (rla : P (.rla))
    (rra : P (.rra))
    (rot : ∀ (op : RotOp) (o : Operand8), P (instrRot op o))
    (bit : ∀ (b : BitIndex) (o : Operand8), P (instrBit b o))
    (res : ∀ (b : BitIndex) (o : Operand8), P (instrRes b o))
    (set : ∀ (b : BitIndex) (o : Operand8), P (instrSet b o))
    (jp : ∀ (nn : Word), P (.jp_nn nn))
    (jpCond : ∀ (cc : Cond) (nn : Word), P (instrJpCond cc nn))
    (jpHl : P (.jp_hl))
    (jr : ∀ (e : Byte), P (.jr_e e))
    (jrCond : ∀ (cc : Cond) (e : Byte), P (instrJrCond cc e))
    (call : ∀ (nn : Word), P (.call_nn nn))
    (callCond : ∀ (cc : Cond) (nn : Word), P (instrCallCond cc nn))
    (ret : P (.ret))
    (retCond : ∀ (cc : Cond), P (instrRetCond cc))
    (reti : P (.reti))
    (rst : ∀ (v : RstVector), P (instrRst v))
    (nop : P (.nop))
    (di : P (.di))
    (ei : P (.ei))
    (halt : P (.halt))
    (stop : ∀ (n : Byte), P (.stop n))
    (undefined : ∀ (p : Byte × Instr) (_hp : p ∈ undefinedRows), P (p.2))
    (cbPrefix : ∀ (c : Byte), P (.cb_prefix c))
    (i : Instr) : P i := by
  cases i with
  | ld_bc_nn nn => exact ldPair .bc nn
  | ld_b_n n => exact ldImm (.reg .b) n
  | ld_at_nn_sp nn => exact storeSp nn
  | ld_c_n n => exact ldImm (.reg .c) n
  | stop n => exact stop n
  | ld_de_nn nn => exact ldPair .de nn
  | ld_d_n n => exact ldImm (.reg .d) n
  | jr_e e => exact jr e
  | ld_e_n n => exact ldImm (.reg .e) n
  | jr_nz_e e => exact jrCond .nz e
  | ld_hl_nn nn => exact ldPair .hl nn
  | ld_h_n n => exact ldImm (.reg .h) n
  | jr_z_e e => exact jrCond .z e
  | ld_l_n n => exact ldImm (.reg .l) n
  | jr_nc_e e => exact jrCond .nc e
  | ld_sp_nn nn => exact ldPair .sp nn
  | ld_at_hl_n n => exact ldImm .atHl n
  | jr_c_e e => exact jrCond .c e
  | ld_a_n n => exact ldImm (.reg .a) n
  | jp_nz_nn nn => exact jpCond .nz nn
  | jp_nn nn => exact jp nn
  | call_nz_nn nn => exact callCond .nz nn
  | add_a_n n => exact alu .add (.imm n)
  | jp_z_nn nn => exact jpCond .z nn
  | cb_prefix c => exact cbPrefix c
  | call_z_nn nn => exact callCond .z nn
  | call_nn nn => exact call nn
  | adc_a_n n => exact alu .adc (.imm n)
  | jp_nc_nn nn => exact jpCond .nc nn
  | call_nc_nn nn => exact callCond .nc nn
  | sub_n n => exact alu .sub (.imm n)
  | jp_c_nn nn => exact jpCond .c nn
  | call_c_nn nn => exact callCond .c nn
  | sbc_a_n n => exact alu .sbc (.imm n)
  | ldh_at_n_a n => exact storeA (.ioPage n)
  | and_n n => exact alu .and (.imm n)
  | add_sp_e e => exact addSp e
  | ld_at_nn_a nn => exact storeA (.absolute nn)
  | xor_n n => exact alu .xor (.imm n)
  | ldh_a_at_n n => exact loadA (.ioPage n)
  | or_n n => exact alu .or (.imm n)
  | ld_hl_sp_e e => exact ldHlSp e
  | ld_a_at_nn nn => exact loadA (.absolute nn)
  | cp_n n => exact alu .cp (.imm n)
  | nop => exact nop
  | ld_at_bc_a => exact storeA .atBc
  | inc_bc => exact incPair .bc
  | inc_b => exact inc (.reg .b)
  | dec_b => exact dec (.reg .b)
  | rlca => exact rlca
  | add_hl_bc => exact addHl .bc
  | ld_a_at_bc => exact loadA .atBc
  | dec_bc => exact decPair .bc
  | inc_c => exact inc (.reg .c)
  | dec_c => exact dec (.reg .c)
  | rrca => exact rrca
  | ld_at_de_a => exact storeA .atDe
  | inc_de => exact incPair .de
  | inc_d => exact inc (.reg .d)
  | dec_d => exact dec (.reg .d)
  | rla => exact rla
  | add_hl_de => exact addHl .de
  | ld_a_at_de => exact loadA .atDe
  | dec_de => exact decPair .de
  | inc_e => exact inc (.reg .e)
  | dec_e => exact dec (.reg .e)
  | rra => exact rra
  | ld_at_hli_a => exact storeA .hlInc
  | inc_hl => exact incPair .hl
  | inc_h => exact inc (.reg .h)
  | dec_h => exact dec (.reg .h)
  | daa => exact daa
  | add_hl_hl => exact addHl .hl
  | ld_a_at_hli => exact loadA .hlInc
  | dec_hl => exact decPair .hl
  | inc_l => exact inc (.reg .l)
  | dec_l => exact dec (.reg .l)
  | cpl => exact cpl
  | ld_at_hld_a => exact storeA .hlDec
  | inc_sp => exact incPair .sp
  | inc_at_hl => exact inc .atHl
  | dec_at_hl => exact dec .atHl
  | scf => exact scf
  | add_hl_sp => exact addHl .sp
  | ld_a_at_hld => exact loadA .hlDec
  | dec_sp => exact decPair .sp
  | inc_a => exact inc (.reg .a)
  | dec_a => exact dec (.reg .a)
  | ccf => exact ccf
  | ld_b_b => exact ldReg .b (.reg .b)
  | ld_b_c => exact ldReg .b (.reg .c)
  | ld_b_d => exact ldReg .b (.reg .d)
  | ld_b_e => exact ldReg .b (.reg .e)
  | ld_b_h => exact ldReg .b (.reg .h)
  | ld_b_l => exact ldReg .b (.reg .l)
  | ld_b_at_hl => exact ldReg .b .atHl
  | ld_b_a => exact ldReg .b (.reg .a)
  | ld_c_b => exact ldReg .c (.reg .b)
  | ld_c_c => exact ldReg .c (.reg .c)
  | ld_c_d => exact ldReg .c (.reg .d)
  | ld_c_e => exact ldReg .c (.reg .e)
  | ld_c_h => exact ldReg .c (.reg .h)
  | ld_c_l => exact ldReg .c (.reg .l)
  | ld_c_at_hl => exact ldReg .c .atHl
  | ld_c_a => exact ldReg .c (.reg .a)
  | ld_d_b => exact ldReg .d (.reg .b)
  | ld_d_c => exact ldReg .d (.reg .c)
  | ld_d_d => exact ldReg .d (.reg .d)
  | ld_d_e => exact ldReg .d (.reg .e)
  | ld_d_h => exact ldReg .d (.reg .h)
  | ld_d_l => exact ldReg .d (.reg .l)
  | ld_d_at_hl => exact ldReg .d .atHl
  | ld_d_a => exact ldReg .d (.reg .a)
  | ld_e_b => exact ldReg .e (.reg .b)
  | ld_e_c => exact ldReg .e (.reg .c)
  | ld_e_d => exact ldReg .e (.reg .d)
  | ld_e_e => exact ldReg .e (.reg .e)
  | ld_e_h => exact ldReg .e (.reg .h)
  | ld_e_l => exact ldReg .e (.reg .l)
  | ld_e_at_hl => exact ldReg .e .atHl
  | ld_e_a => exact ldReg .e (.reg .a)
  | ld_h_b => exact ldReg .h (.reg .b)
  | ld_h_c => exact ldReg .h (.reg .c)
  | ld_h_d => exact ldReg .h (.reg .d)
  | ld_h_e => exact ldReg .h (.reg .e)
  | ld_h_h => exact ldReg .h (.reg .h)
  | ld_h_l => exact ldReg .h (.reg .l)
  | ld_h_at_hl => exact ldReg .h .atHl
  | ld_h_a => exact ldReg .h (.reg .a)
  | ld_l_b => exact ldReg .l (.reg .b)
  | ld_l_c => exact ldReg .l (.reg .c)
  | ld_l_d => exact ldReg .l (.reg .d)
  | ld_l_e => exact ldReg .l (.reg .e)
  | ld_l_h => exact ldReg .l (.reg .h)
  | ld_l_l => exact ldReg .l (.reg .l)
  | ld_l_at_hl => exact ldReg .l .atHl
  | ld_l_a => exact ldReg .l (.reg .a)
  | ld_at_hl_b => exact ldAtHl .b
  | ld_at_hl_c => exact ldAtHl .c
  | ld_at_hl_d => exact ldAtHl .d
  | ld_at_hl_e => exact ldAtHl .e
  | ld_at_hl_h => exact ldAtHl .h
  | ld_at_hl_l => exact ldAtHl .l
  | halt => exact halt
  | ld_at_hl_a => exact ldAtHl .a
  | ld_a_b => exact ldReg .a (.reg .b)
  | ld_a_c => exact ldReg .a (.reg .c)
  | ld_a_d => exact ldReg .a (.reg .d)
  | ld_a_e => exact ldReg .a (.reg .e)
  | ld_a_h => exact ldReg .a (.reg .h)
  | ld_a_l => exact ldReg .a (.reg .l)
  | ld_a_at_hl => exact ldReg .a .atHl
  | ld_a_a => exact ldReg .a (.reg .a)
  | add_a_b => exact alu .add (.op (.reg .b))
  | add_a_c => exact alu .add (.op (.reg .c))
  | add_a_d => exact alu .add (.op (.reg .d))
  | add_a_e => exact alu .add (.op (.reg .e))
  | add_a_h => exact alu .add (.op (.reg .h))
  | add_a_l => exact alu .add (.op (.reg .l))
  | add_a_at_hl => exact alu .add (.op .atHl)
  | add_a_a => exact alu .add (.op (.reg .a))
  | adc_a_b => exact alu .adc (.op (.reg .b))
  | adc_a_c => exact alu .adc (.op (.reg .c))
  | adc_a_d => exact alu .adc (.op (.reg .d))
  | adc_a_e => exact alu .adc (.op (.reg .e))
  | adc_a_h => exact alu .adc (.op (.reg .h))
  | adc_a_l => exact alu .adc (.op (.reg .l))
  | adc_a_at_hl => exact alu .adc (.op .atHl)
  | adc_a_a => exact alu .adc (.op (.reg .a))
  | sub_b => exact alu .sub (.op (.reg .b))
  | sub_c => exact alu .sub (.op (.reg .c))
  | sub_d => exact alu .sub (.op (.reg .d))
  | sub_e => exact alu .sub (.op (.reg .e))
  | sub_h => exact alu .sub (.op (.reg .h))
  | sub_l => exact alu .sub (.op (.reg .l))
  | sub_at_hl => exact alu .sub (.op .atHl)
  | sub_a => exact alu .sub (.op (.reg .a))
  | sbc_a_b => exact alu .sbc (.op (.reg .b))
  | sbc_a_c => exact alu .sbc (.op (.reg .c))
  | sbc_a_d => exact alu .sbc (.op (.reg .d))
  | sbc_a_e => exact alu .sbc (.op (.reg .e))
  | sbc_a_h => exact alu .sbc (.op (.reg .h))
  | sbc_a_l => exact alu .sbc (.op (.reg .l))
  | sbc_a_at_hl => exact alu .sbc (.op .atHl)
  | sbc_a_a => exact alu .sbc (.op (.reg .a))
  | and_b => exact alu .and (.op (.reg .b))
  | and_c => exact alu .and (.op (.reg .c))
  | and_d => exact alu .and (.op (.reg .d))
  | and_e => exact alu .and (.op (.reg .e))
  | and_h => exact alu .and (.op (.reg .h))
  | and_l => exact alu .and (.op (.reg .l))
  | and_at_hl => exact alu .and (.op .atHl)
  | and_a => exact alu .and (.op (.reg .a))
  | xor_b => exact alu .xor (.op (.reg .b))
  | xor_c => exact alu .xor (.op (.reg .c))
  | xor_d => exact alu .xor (.op (.reg .d))
  | xor_e => exact alu .xor (.op (.reg .e))
  | xor_h => exact alu .xor (.op (.reg .h))
  | xor_l => exact alu .xor (.op (.reg .l))
  | xor_at_hl => exact alu .xor (.op .atHl)
  | xor_a => exact alu .xor (.op (.reg .a))
  | or_b => exact alu .or (.op (.reg .b))
  | or_c => exact alu .or (.op (.reg .c))
  | or_d => exact alu .or (.op (.reg .d))
  | or_e => exact alu .or (.op (.reg .e))
  | or_h => exact alu .or (.op (.reg .h))
  | or_l => exact alu .or (.op (.reg .l))
  | or_at_hl => exact alu .or (.op .atHl)
  | or_a => exact alu .or (.op (.reg .a))
  | cp_b => exact alu .cp (.op (.reg .b))
  | cp_c => exact alu .cp (.op (.reg .c))
  | cp_d => exact alu .cp (.op (.reg .d))
  | cp_e => exact alu .cp (.op (.reg .e))
  | cp_h => exact alu .cp (.op (.reg .h))
  | cp_l => exact alu .cp (.op (.reg .l))
  | cp_at_hl => exact alu .cp (.op .atHl)
  | cp_a => exact alu .cp (.op (.reg .a))
  | ret_nz => exact retCond .nz
  | pop_bc => exact pop .bc
  | push_bc => exact push .bc
  | rst_00 => exact rst .v00
  | ret_z => exact retCond .z
  | ret => exact ret
  | rst_08 => exact rst .v08
  | ret_nc => exact retCond .nc
  | pop_de => exact pop .de
  | undefined_d3 => exact undefined (0xD3, .undefined_d3) (by decide)
  | push_de => exact push .de
  | rst_10 => exact rst .v10
  | ret_c => exact retCond .c
  | reti => exact reti
  | undefined_db => exact undefined (0xDB, .undefined_db) (by decide)
  | undefined_dd => exact undefined (0xDD, .undefined_dd) (by decide)
  | rst_18 => exact rst .v18
  | pop_hl => exact pop .hl
  | ld_at_c_a => exact storeA .ioC
  | undefined_e3 => exact undefined (0xE3, .undefined_e3) (by decide)
  | undefined_e4 => exact undefined (0xE4, .undefined_e4) (by decide)
  | push_hl => exact push .hl
  | rst_20 => exact rst .v20
  | jp_hl => exact jpHl
  | undefined_eb => exact undefined (0xEB, .undefined_eb) (by decide)
  | undefined_ec => exact undefined (0xEC, .undefined_ec) (by decide)
  | undefined_ed => exact undefined (0xED, .undefined_ed) (by decide)
  | rst_28 => exact rst .v28
  | pop_af => exact pop .af
  | ld_a_at_c => exact loadA .ioC
  | di => exact di
  | undefined_f4 => exact undefined (0xF4, .undefined_f4) (by decide)
  | push_af => exact push .af
  | rst_30 => exact rst .v30
  | ld_sp_hl => exact ldSpHl
  | ei => exact ei
  | undefined_fc => exact undefined (0xFC, .undefined_fc) (by decide)
  | undefined_fd => exact undefined (0xFD, .undefined_fd) (by decide)
  | rst_38 => exact rst .v38
  | rlc_b => exact rot .rlc (.reg .b)
  | rlc_c => exact rot .rlc (.reg .c)
  | rlc_d => exact rot .rlc (.reg .d)
  | rlc_e => exact rot .rlc (.reg .e)
  | rlc_h => exact rot .rlc (.reg .h)
  | rlc_l => exact rot .rlc (.reg .l)
  | rlc_at_hl => exact rot .rlc .atHl
  | rlc_a => exact rot .rlc (.reg .a)
  | rrc_b => exact rot .rrc (.reg .b)
  | rrc_c => exact rot .rrc (.reg .c)
  | rrc_d => exact rot .rrc (.reg .d)
  | rrc_e => exact rot .rrc (.reg .e)
  | rrc_h => exact rot .rrc (.reg .h)
  | rrc_l => exact rot .rrc (.reg .l)
  | rrc_at_hl => exact rot .rrc .atHl
  | rrc_a => exact rot .rrc (.reg .a)
  | rl_b => exact rot .rl (.reg .b)
  | rl_c => exact rot .rl (.reg .c)
  | rl_d => exact rot .rl (.reg .d)
  | rl_e => exact rot .rl (.reg .e)
  | rl_h => exact rot .rl (.reg .h)
  | rl_l => exact rot .rl (.reg .l)
  | rl_at_hl => exact rot .rl .atHl
  | rl_a => exact rot .rl (.reg .a)
  | rr_b => exact rot .rr (.reg .b)
  | rr_c => exact rot .rr (.reg .c)
  | rr_d => exact rot .rr (.reg .d)
  | rr_e => exact rot .rr (.reg .e)
  | rr_h => exact rot .rr (.reg .h)
  | rr_l => exact rot .rr (.reg .l)
  | rr_at_hl => exact rot .rr .atHl
  | rr_a => exact rot .rr (.reg .a)
  | sla_b => exact rot .sla (.reg .b)
  | sla_c => exact rot .sla (.reg .c)
  | sla_d => exact rot .sla (.reg .d)
  | sla_e => exact rot .sla (.reg .e)
  | sla_h => exact rot .sla (.reg .h)
  | sla_l => exact rot .sla (.reg .l)
  | sla_at_hl => exact rot .sla .atHl
  | sla_a => exact rot .sla (.reg .a)
  | sra_b => exact rot .sra (.reg .b)
  | sra_c => exact rot .sra (.reg .c)
  | sra_d => exact rot .sra (.reg .d)
  | sra_e => exact rot .sra (.reg .e)
  | sra_h => exact rot .sra (.reg .h)
  | sra_l => exact rot .sra (.reg .l)
  | sra_at_hl => exact rot .sra .atHl
  | sra_a => exact rot .sra (.reg .a)
  | swap_b => exact rot .swap (.reg .b)
  | swap_c => exact rot .swap (.reg .c)
  | swap_d => exact rot .swap (.reg .d)
  | swap_e => exact rot .swap (.reg .e)
  | swap_h => exact rot .swap (.reg .h)
  | swap_l => exact rot .swap (.reg .l)
  | swap_at_hl => exact rot .swap .atHl
  | swap_a => exact rot .swap (.reg .a)
  | srl_b => exact rot .srl (.reg .b)
  | srl_c => exact rot .srl (.reg .c)
  | srl_d => exact rot .srl (.reg .d)
  | srl_e => exact rot .srl (.reg .e)
  | srl_h => exact rot .srl (.reg .h)
  | srl_l => exact rot .srl (.reg .l)
  | srl_at_hl => exact rot .srl .atHl
  | srl_a => exact rot .srl (.reg .a)
  | bit_0_b => exact bit .b0 (.reg .b)
  | bit_0_c => exact bit .b0 (.reg .c)
  | bit_0_d => exact bit .b0 (.reg .d)
  | bit_0_e => exact bit .b0 (.reg .e)
  | bit_0_h => exact bit .b0 (.reg .h)
  | bit_0_l => exact bit .b0 (.reg .l)
  | bit_0_at_hl => exact bit .b0 .atHl
  | bit_0_a => exact bit .b0 (.reg .a)
  | bit_1_b => exact bit .b1 (.reg .b)
  | bit_1_c => exact bit .b1 (.reg .c)
  | bit_1_d => exact bit .b1 (.reg .d)
  | bit_1_e => exact bit .b1 (.reg .e)
  | bit_1_h => exact bit .b1 (.reg .h)
  | bit_1_l => exact bit .b1 (.reg .l)
  | bit_1_at_hl => exact bit .b1 .atHl
  | bit_1_a => exact bit .b1 (.reg .a)
  | bit_2_b => exact bit .b2 (.reg .b)
  | bit_2_c => exact bit .b2 (.reg .c)
  | bit_2_d => exact bit .b2 (.reg .d)
  | bit_2_e => exact bit .b2 (.reg .e)
  | bit_2_h => exact bit .b2 (.reg .h)
  | bit_2_l => exact bit .b2 (.reg .l)
  | bit_2_at_hl => exact bit .b2 .atHl
  | bit_2_a => exact bit .b2 (.reg .a)
  | bit_3_b => exact bit .b3 (.reg .b)
  | bit_3_c => exact bit .b3 (.reg .c)
  | bit_3_d => exact bit .b3 (.reg .d)
  | bit_3_e => exact bit .b3 (.reg .e)
  | bit_3_h => exact bit .b3 (.reg .h)
  | bit_3_l => exact bit .b3 (.reg .l)
  | bit_3_at_hl => exact bit .b3 .atHl
  | bit_3_a => exact bit .b3 (.reg .a)
  | bit_4_b => exact bit .b4 (.reg .b)
  | bit_4_c => exact bit .b4 (.reg .c)
  | bit_4_d => exact bit .b4 (.reg .d)
  | bit_4_e => exact bit .b4 (.reg .e)
  | bit_4_h => exact bit .b4 (.reg .h)
  | bit_4_l => exact bit .b4 (.reg .l)
  | bit_4_at_hl => exact bit .b4 .atHl
  | bit_4_a => exact bit .b4 (.reg .a)
  | bit_5_b => exact bit .b5 (.reg .b)
  | bit_5_c => exact bit .b5 (.reg .c)
  | bit_5_d => exact bit .b5 (.reg .d)
  | bit_5_e => exact bit .b5 (.reg .e)
  | bit_5_h => exact bit .b5 (.reg .h)
  | bit_5_l => exact bit .b5 (.reg .l)
  | bit_5_at_hl => exact bit .b5 .atHl
  | bit_5_a => exact bit .b5 (.reg .a)
  | bit_6_b => exact bit .b6 (.reg .b)
  | bit_6_c => exact bit .b6 (.reg .c)
  | bit_6_d => exact bit .b6 (.reg .d)
  | bit_6_e => exact bit .b6 (.reg .e)
  | bit_6_h => exact bit .b6 (.reg .h)
  | bit_6_l => exact bit .b6 (.reg .l)
  | bit_6_at_hl => exact bit .b6 .atHl
  | bit_6_a => exact bit .b6 (.reg .a)
  | bit_7_b => exact bit .b7 (.reg .b)
  | bit_7_c => exact bit .b7 (.reg .c)
  | bit_7_d => exact bit .b7 (.reg .d)
  | bit_7_e => exact bit .b7 (.reg .e)
  | bit_7_h => exact bit .b7 (.reg .h)
  | bit_7_l => exact bit .b7 (.reg .l)
  | bit_7_at_hl => exact bit .b7 .atHl
  | bit_7_a => exact bit .b7 (.reg .a)
  | res_0_b => exact res .b0 (.reg .b)
  | res_0_c => exact res .b0 (.reg .c)
  | res_0_d => exact res .b0 (.reg .d)
  | res_0_e => exact res .b0 (.reg .e)
  | res_0_h => exact res .b0 (.reg .h)
  | res_0_l => exact res .b0 (.reg .l)
  | res_0_at_hl => exact res .b0 .atHl
  | res_0_a => exact res .b0 (.reg .a)
  | res_1_b => exact res .b1 (.reg .b)
  | res_1_c => exact res .b1 (.reg .c)
  | res_1_d => exact res .b1 (.reg .d)
  | res_1_e => exact res .b1 (.reg .e)
  | res_1_h => exact res .b1 (.reg .h)
  | res_1_l => exact res .b1 (.reg .l)
  | res_1_at_hl => exact res .b1 .atHl
  | res_1_a => exact res .b1 (.reg .a)
  | res_2_b => exact res .b2 (.reg .b)
  | res_2_c => exact res .b2 (.reg .c)
  | res_2_d => exact res .b2 (.reg .d)
  | res_2_e => exact res .b2 (.reg .e)
  | res_2_h => exact res .b2 (.reg .h)
  | res_2_l => exact res .b2 (.reg .l)
  | res_2_at_hl => exact res .b2 .atHl
  | res_2_a => exact res .b2 (.reg .a)
  | res_3_b => exact res .b3 (.reg .b)
  | res_3_c => exact res .b3 (.reg .c)
  | res_3_d => exact res .b3 (.reg .d)
  | res_3_e => exact res .b3 (.reg .e)
  | res_3_h => exact res .b3 (.reg .h)
  | res_3_l => exact res .b3 (.reg .l)
  | res_3_at_hl => exact res .b3 .atHl
  | res_3_a => exact res .b3 (.reg .a)
  | res_4_b => exact res .b4 (.reg .b)
  | res_4_c => exact res .b4 (.reg .c)
  | res_4_d => exact res .b4 (.reg .d)
  | res_4_e => exact res .b4 (.reg .e)
  | res_4_h => exact res .b4 (.reg .h)
  | res_4_l => exact res .b4 (.reg .l)
  | res_4_at_hl => exact res .b4 .atHl
  | res_4_a => exact res .b4 (.reg .a)
  | res_5_b => exact res .b5 (.reg .b)
  | res_5_c => exact res .b5 (.reg .c)
  | res_5_d => exact res .b5 (.reg .d)
  | res_5_e => exact res .b5 (.reg .e)
  | res_5_h => exact res .b5 (.reg .h)
  | res_5_l => exact res .b5 (.reg .l)
  | res_5_at_hl => exact res .b5 .atHl
  | res_5_a => exact res .b5 (.reg .a)
  | res_6_b => exact res .b6 (.reg .b)
  | res_6_c => exact res .b6 (.reg .c)
  | res_6_d => exact res .b6 (.reg .d)
  | res_6_e => exact res .b6 (.reg .e)
  | res_6_h => exact res .b6 (.reg .h)
  | res_6_l => exact res .b6 (.reg .l)
  | res_6_at_hl => exact res .b6 .atHl
  | res_6_a => exact res .b6 (.reg .a)
  | res_7_b => exact res .b7 (.reg .b)
  | res_7_c => exact res .b7 (.reg .c)
  | res_7_d => exact res .b7 (.reg .d)
  | res_7_e => exact res .b7 (.reg .e)
  | res_7_h => exact res .b7 (.reg .h)
  | res_7_l => exact res .b7 (.reg .l)
  | res_7_at_hl => exact res .b7 .atHl
  | res_7_a => exact res .b7 (.reg .a)
  | set_0_b => exact set .b0 (.reg .b)
  | set_0_c => exact set .b0 (.reg .c)
  | set_0_d => exact set .b0 (.reg .d)
  | set_0_e => exact set .b0 (.reg .e)
  | set_0_h => exact set .b0 (.reg .h)
  | set_0_l => exact set .b0 (.reg .l)
  | set_0_at_hl => exact set .b0 .atHl
  | set_0_a => exact set .b0 (.reg .a)
  | set_1_b => exact set .b1 (.reg .b)
  | set_1_c => exact set .b1 (.reg .c)
  | set_1_d => exact set .b1 (.reg .d)
  | set_1_e => exact set .b1 (.reg .e)
  | set_1_h => exact set .b1 (.reg .h)
  | set_1_l => exact set .b1 (.reg .l)
  | set_1_at_hl => exact set .b1 .atHl
  | set_1_a => exact set .b1 (.reg .a)
  | set_2_b => exact set .b2 (.reg .b)
  | set_2_c => exact set .b2 (.reg .c)
  | set_2_d => exact set .b2 (.reg .d)
  | set_2_e => exact set .b2 (.reg .e)
  | set_2_h => exact set .b2 (.reg .h)
  | set_2_l => exact set .b2 (.reg .l)
  | set_2_at_hl => exact set .b2 .atHl
  | set_2_a => exact set .b2 (.reg .a)
  | set_3_b => exact set .b3 (.reg .b)
  | set_3_c => exact set .b3 (.reg .c)
  | set_3_d => exact set .b3 (.reg .d)
  | set_3_e => exact set .b3 (.reg .e)
  | set_3_h => exact set .b3 (.reg .h)
  | set_3_l => exact set .b3 (.reg .l)
  | set_3_at_hl => exact set .b3 .atHl
  | set_3_a => exact set .b3 (.reg .a)
  | set_4_b => exact set .b4 (.reg .b)
  | set_4_c => exact set .b4 (.reg .c)
  | set_4_d => exact set .b4 (.reg .d)
  | set_4_e => exact set .b4 (.reg .e)
  | set_4_h => exact set .b4 (.reg .h)
  | set_4_l => exact set .b4 (.reg .l)
  | set_4_at_hl => exact set .b4 .atHl
  | set_4_a => exact set .b4 (.reg .a)
  | set_5_b => exact set .b5 (.reg .b)
  | set_5_c => exact set .b5 (.reg .c)
  | set_5_d => exact set .b5 (.reg .d)
  | set_5_e => exact set .b5 (.reg .e)
  | set_5_h => exact set .b5 (.reg .h)
  | set_5_l => exact set .b5 (.reg .l)
  | set_5_at_hl => exact set .b5 .atHl
  | set_5_a => exact set .b5 (.reg .a)
  | set_6_b => exact set .b6 (.reg .b)
  | set_6_c => exact set .b6 (.reg .c)
  | set_6_d => exact set .b6 (.reg .d)
  | set_6_e => exact set .b6 (.reg .e)
  | set_6_h => exact set .b6 (.reg .h)
  | set_6_l => exact set .b6 (.reg .l)
  | set_6_at_hl => exact set .b6 .atHl
  | set_6_a => exact set .b6 (.reg .a)
  | set_7_b => exact set .b7 (.reg .b)
  | set_7_c => exact set .b7 (.reg .c)
  | set_7_d => exact set .b7 (.reg .d)
  | set_7_e => exact set .b7 (.reg .e)
  | set_7_h => exact set .b7 (.reg .h)
  | set_7_l => exact set .b7 (.reg .l)
  | set_7_at_hl => exact set .b7 .atHl
  | set_7_a => exact set .b7 (.reg .a)

namespace Machine

/-! ### `exec` on each family -/

theorem exec_instrLd_reg (r : Reg8) (o : Operand8) (s : State) :
    exec (instrLd (.reg r) o) s = load8 (.reg r) (.op o) (o.cycles 1 2) s := by
  cases o with
  | reg q => cases r <;> cases q <;> rfl
  | atHl => cases r <;> rfl

theorem exec_instrLd_atHl (r : Reg8) (s : State) :
    exec (instrLd .atHl (.reg r)) s = load8 .atHl (.op (.reg r)) 2 s := by
  cases r <;> rfl

theorem exec_instrLdImm (o : Operand8) (n : Byte) (s : State) :
    exec (instrLdImm o n) s = load8 o (.imm n) (o.cycles 2 3) s := by
  cases o with
  | reg q => cases q <;> rfl
  | atHl => rfl

theorem exec_loadAInstr (m : Addressing) (s : State) : exec (loadAInstr m) s = loadA m m.cycles s := by
  cases m <;> rfl

theorem exec_storeAInstr (m : Addressing) (s : State) : exec (storeAInstr m) s = storeA m m.cycles s := by
  cases m <;> rfl

theorem exec_instrLdPair (p : Pair) (nn : Word) (s : State) : exec (instrLdPair p nn) s = loadPair p nn 3 s := by
  cases p <;> rfl

theorem exec_instrPush (p : StackPair) (s : State) : exec (instrPush p) s = pushPair p 4 s := by
  cases p <;> rfl

theorem exec_instrPop (p : StackPair) (s : State) : exec (instrPop p) s = popPair p 3 s := by
  cases p <;> rfl

theorem exec_aluInstr (op : AluOp) (src : Source8) (s : State) :
    exec (aluInstr op src) s = alu op src src.cycles s := by
  cases src with
  | imm n => cases op <;> rfl
  | op o =>
    cases o with
    | reg q => cases op <;> cases q <;> rfl
    | atHl => cases op <;> rfl

theorem exec_instrInc (o : Operand8) (s : State) : exec (instrInc o) s = inc8 o (o.cycles 1 3) s := by
  cases o with
  | reg q => cases q <;> rfl
  | atHl => rfl

theorem exec_instrDec (o : Operand8) (s : State) : exec (instrDec o) s = dec8 o (o.cycles 1 3) s := by
  cases o with
  | reg q => cases q <;> rfl
  | atHl => rfl

theorem exec_instrIncPair (p : Pair) (s : State) : exec (instrIncPair p) s = addToPair p 1 2 s := by
  cases p <;> rfl

theorem exec_instrDecPair (p : Pair) (s : State) : exec (instrDecPair p) s = addToPair p (-1) 2 s := by
  cases p <;> rfl

theorem exec_instrAddHl (p : Pair) (s : State) : exec (instrAddHl p) s = addHl p 2 s := by
  cases p <;> rfl

theorem exec_instrRot (op : RotOp) (o : Operand8) (s : State) :
    exec (instrRot op o) s = rotate op o (o.cycles 2 4) s := by
  cases o with
  | reg q => cases op <;> cases q <;> rfl
  | atHl => cases op <;> rfl

theorem exec_instrBit (b : BitIndex) (o : Operand8) (s : State) :
    exec (instrBit b o) s = testBit b o (o.cycles 2 3) s := by
  cases o with
  | reg q => cases b <;> cases q <;> rfl
  | atHl => cases b <;> rfl

theorem exec_instrRes (b : BitIndex) (o : Operand8) (s : State) :
    exec (instrRes b o) s = resetBit b o (o.cycles 2 4) s := by
  cases o with
  | reg q => cases b <;> cases q <;> rfl
  | atHl => cases b <;> rfl

theorem exec_instrSet (b : BitIndex) (o : Operand8) (s : State) :
    exec (instrSet b o) s = setBit b o (o.cycles 2 4) s := by
  cases o with
  | reg q => cases b <;> cases q <;> rfl
  | atHl => cases b <;> rfl

theorem exec_instrJpCond (cc : Cond) (nn : Word) (s : State) : exec (instrJpCond cc nn) s = jumpIf cc nn 4 3 s := by
  cases cc <;> rfl

theorem exec_instrJrCond (cc : Cond) (e : Byte) (s : State) :
    exec (instrJrCond cc e) s = jumpIf cc (s.cpu.pc + signExtend16 e) 3 2 s := by
  cases cc <;> rfl

theorem exec_instrCallCond (cc : Cond) (nn : Word) (s : State) :
    exec (instrCallCond cc nn) s = callIf cc nn 6 3 s := by
  cases cc <;> rfl

theorem exec_instrRetCond (cc : Cond) (s : State) : exec (instrRetCond cc) s = retIf cc 5 2 s := by
  cases cc <;> rfl

theorem exec_instrRst (v : RstVector) (s : State) : exec (instrRst v) s = call v.address 4 s := by
  cases v <;> rfl

theorem exec_undefined {p : Byte × Instr} (hp : p ∈ undefinedRows) (s : State) :
    exec p.2 s = undefinedOpcode p.1 1 s := by
  simp only [undefinedRows, List.mem_cons, List.not_mem_nil, or_false] at hp
  rcases hp with rfl | rfl | rfl | rfl | rfl | rfl | rfl | rfl | rfl | rfl | rfl <;> rfl

/-! ### `encode` on each family -/

theorem encode_instrLd_reg (r : Reg8) (o : Operand8) :
    encode (instrLd (.reg r) o) = [byteOf (0x40 + 8 * r.code + o.code)] := by
  cases o with
  | reg q => cases r <;> cases q <;> rfl
  | atHl => cases r <;> rfl

theorem encode_instrLd_atHl (r : Reg8) : encode (instrLd .atHl (.reg r)) = [byteOf (0x70 + r.code)] := by
  cases r <;> rfl

theorem encode_instrLdImm (o : Operand8) (n : Byte) : encode (instrLdImm o n) = [byteOf (0x06 + 8 * o.code), n] := by
  cases o with
  | reg q => cases q <;> rfl
  | atHl => rfl

theorem encode_instrLdPair (p : Pair) (nn : Word) :
    encode (instrLdPair p nn) = [byteOf (0x01 + 16 * p.code), loByte nn, hiByte nn] := by
  cases p <;> rfl

theorem encode_instrPush (p : StackPair) : encode (instrPush p) = [byteOf (0xC5 + 16 * p.code)] := by
  cases p <;> rfl

theorem encode_instrPop (p : StackPair) : encode (instrPop p) = [byteOf (0xC1 + 16 * p.code)] := by
  cases p <;> rfl

theorem encode_aluInstr (op : AluOp) (src : Source8) : encode (aluInstr op src) = aluBytes op src := by
  cases src with
  | imm n => cases op <;> rfl
  | op o =>
    cases o with
    | reg q => cases op <;> cases q <;> rfl
    | atHl => cases op <;> rfl

theorem encode_instrInc (o : Operand8) : encode (instrInc o) = [byteOf (0x04 + 8 * o.code)] := by
  cases o with
  | reg q => cases q <;> rfl
  | atHl => rfl

theorem encode_instrDec (o : Operand8) : encode (instrDec o) = [byteOf (0x05 + 8 * o.code)] := by
  cases o with
  | reg q => cases q <;> rfl
  | atHl => rfl

theorem encode_instrIncPair (p : Pair) : encode (instrIncPair p) = [byteOf (0x03 + 16 * p.code)] := by
  cases p <;> rfl

theorem encode_instrDecPair (p : Pair) : encode (instrDecPair p) = [byteOf (0x0B + 16 * p.code)] := by
  cases p <;> rfl

theorem encode_instrAddHl (p : Pair) : encode (instrAddHl p) = [byteOf (0x09 + 16 * p.code)] := by
  cases p <;> rfl

theorem encode_instrRot (op : RotOp) (o : Operand8) :
    encode (instrRot op o) = [0xCB, byteOf (8 * op.code + o.code)] := by
  cases o with
  | reg q => cases op <;> cases q <;> rfl
  | atHl => cases op <;> rfl

theorem encode_instrBit (b : BitIndex) (o : Operand8) :
    encode (instrBit b o) = [0xCB, byteOf (0x40 + 8 * b.toNat + o.code)] := by
  cases o with
  | reg q => cases b <;> cases q <;> rfl
  | atHl => cases b <;> rfl

theorem encode_instrRes (b : BitIndex) (o : Operand8) :
    encode (instrRes b o) = [0xCB, byteOf (0x80 + 8 * b.toNat + o.code)] := by
  cases o with
  | reg q => cases b <;> cases q <;> rfl
  | atHl => cases b <;> rfl

theorem encode_instrSet (b : BitIndex) (o : Operand8) :
    encode (instrSet b o) = [0xCB, byteOf (0xC0 + 8 * b.toNat + o.code)] := by
  cases o with
  | reg q => cases b <;> cases q <;> rfl
  | atHl => cases b <;> rfl

theorem encode_instrJpCond (cc : Cond) (nn : Word) :
    encode (instrJpCond cc nn) = [byteOf (0xC2 + 8 * cc.code), loByte nn, hiByte nn] := by
  cases cc <;> rfl

theorem encode_instrJrCond (cc : Cond) (e : Byte) : encode (instrJrCond cc e) = [byteOf (0x20 + 8 * cc.code), e] := by
  cases cc <;> rfl

theorem encode_instrCallCond (cc : Cond) (nn : Word) :
    encode (instrCallCond cc nn) = [byteOf (0xC4 + 8 * cc.code), loByte nn, hiByte nn] := by
  cases cc <;> rfl

theorem encode_instrRetCond (cc : Cond) : encode (instrRetCond cc) = [byteOf (0xC0 + 8 * cc.code)] := by
  cases cc <;> rfl

theorem encode_instrRst (v : RstVector) : encode (instrRst v) = [byteOf (0xC7 + v.address.toNat)] := by
  cases v <;> rfl

theorem encode_undefined {p : Byte × Instr} (hp : p ∈ undefinedRows) : encode p.2 = [p.1] := by
  simp only [undefinedRows, List.mem_cons, List.not_mem_nil, or_false] at hp
  rcases hp with rfl | rfl | rfl | rfl | rfl | rfl | rfl | rfl | rfl | rfl | rfl <;> rfl

end Machine

end Sys2Proof
end

