-- ==== Sys2Proof/Laws/Flags.lean ====
section
/-! SUPPORT. What each result and flag computation gives, as numbers (41_alu8, 42_alu16, 43_rotate_shift_bit). -/

namespace Sys2Proof.Machine

theorem byteOf_toNat (n : Nat) : (byteOf n).toNat = n % 256 := by simp [byteOf]

theorem loByte_eq_byteOf (w : Word) : loByte w = byteOf w.toNat := by
  apply BitVec.eq_of_toNat_eq
  simp [byteOf]

theorem hiByte_eq_byteOf (w : Word) : hiByte w = byteOf (w.toNat / 256) := by
  apply BitVec.eq_of_toNat_eq
  have := w.isLt
  simp [byteOf]
  omega

theorem byte_beq_zero (v : Byte) : (v == 0) = decide (v.toNat = 0) := by
  rw [Bool.eq_iff_iff]
  simp [← BitVec.toNat_inj]

/-- `ADD` and `ADC` on unbounded integers (41_alu8 R231, R232). -/
theorem addResult_eq (x y : Byte) (c : Bool) :
    addResult x y c =
      (byteOf (x.toNat + y.toNat + c.toNat),
        ⟨decide ((x.toNat + y.toNat + c.toNat) % 256 = 0), false,
          decide (x.toNat % 16 + y.toNat % 16 + c.toNat > 0xF), decide (x.toNat + y.toNat + c.toNat > 0xFF)⟩) := by
  simp only [addResult, lowNibble, byte_beq_zero]
  simp [byteOf]

/-- `SUB`, `SBC` and `CP` on unbounded integers (41_alu8 R233-R235). -/
theorem subResult_eq (x y : Byte) (c : Bool) :
    subResult x y c =
      (byteOf (x.toNat + 512 - (y.toNat + c.toNat)),
        ⟨decide ((x.toNat + 512 - (y.toNat + c.toNat)) % 256 = 0), true,
          decide (x.toNat % 16 < y.toNat % 16 + c.toNat), decide (x.toNat < y.toNat + c.toNat)⟩) := by
  have hx := x.isLt
  have hy := y.isLt
  have hv : x - y - BitVec.ofNat 8 c.toNat = byteOf (x.toNat + 512 - (y.toNat + c.toNat)) := by
    apply BitVec.eq_of_toNat_eq
    cases c <;> simp [byteOf] <;> omega
  simp only [subResult, lowNibble, byte_beq_zero, hv, byteOf_toNat]
  rfl

/-- The rotates and shifts as numbers (43 R300-R312). -/
theorem rotateResult_eq (op : RotOp) (v : Byte) (c : Bool) :
    rotateResult op v c = (byteOf (rotateValue op v.toNat c.toNat), rotateOut op v.toNat) := by
  revert v c
  cases op <;> decide

theorem rotateValue_lt (op : RotOp) (v : Byte) (c : Bool) : rotateValue op v.toNat c.toNat < 256 := by
  have := v.isLt
  have : c.toNat ≤ 1 := by cases c <;> decide
  cases op <;> simp only [rotateValue] <;> omega

/-- A signed displacement, on unbounded integers (42_alu16 R283, 44_control R353). -/
theorem add_signExtend16 {w target : Word} {d : Byte}
    (h : (target.toNat : Int) = ((w.toNat : Int) + d.toInt) % 65536) : w + signExtend16 d = target := by
  have hw := w.isLt
  have ht := target.isLt
  have hd := d.isLt
  apply BitVec.eq_of_toNat_eq
  have hs : ∀ d : Byte, (signExtend16 d).toNat = if d.toNat < 128 then d.toNat else d.toNat + 65280 := by decide
  have hi : d.toInt = if d.toNat < 128 then (d.toNat : Int) else (d.toNat : Int) - 256 := by
    rw [BitVec.toInt_eq_toNat_cond]
    split_ifs <;> omega
  rw [BitVec.toNat_add, hs]
  rw [hi] at h
  split_ifs at h ⊢ <;> omega

end Sys2Proof.Machine
end

