-- ==== Sys2Proof/Tests/Slice0.lean ====
section
/-! SUPPORT. Tests on fixed values, each from a worked example or a vector of the spec (the file or section is named), and
for each statement with hypotheses a witness that meets them. -/

namespace Sys2Proof.Tests

open Machine

/-! ### Helpers -/

/-- Reset with the registers changed, the bytes at 0x0100, one step. -/
def after (f : Cpu → Cpu) (bytes : List Byte) : State :=
  match step (placeBytes bytes 0x0100 (onCpu f State.reset)) with
  | .next t => t
  | .fault _ => State.reset
  | .refused _ => State.reset

/-- The same with cells of memory. -/
def afterWith (cells : Memory) (f : Cpu → Cpu) (bytes : List Byte) : State :=
  match step (placeBytes bytes 0x0100 (onCpu f { State.reset with mem := cells })) with
  | .next t => t
  | .fault _ => State.reset
  | .refused _ => State.reset

/-- `A`, `F`, the count and the pc of a vector's end state. -/
def ends (t : State) (a f : Byte) (n : Nat) (pc : Word) : Bool :=
  t.cpu.a == a && t.cpu.f.toByte == f && t.elapsed == n && t.cpu.pc == pc

/-- The flags byte and the count of an end state. -/
def flagsAnd (t : State) (f : Byte) (n : Nat) : Bool := t.cpu.f.toByte == f && t.elapsed == n

def setF (v : Byte) (k : Cpu) : Cpu := { k with f := Flags.ofByte v }
def setA (a f : Byte) (k : Cpu) : Cpu := { k with a := a, f := Flags.ofByte f }
def setHl (w : Word) (f : Byte) (k : Cpu) : Cpu := { k.setHl w with f := Flags.ofByte f }
def setSp (w : Word) (f : Byte) (k : Cpu) : Cpu := { k with sp := w, f := Flags.ofByte f }

/-! ### WellFormed (30_encoding R138, R141: the prefix is no instruction by itself) -/

theorem test_wellFormed_refuses_prefix : (Instr.cb_prefix 0x00).wellFormed = false := by decide
theorem test_wellFormed_accepts_nop : Instr.nop.wellFormed = true := by decide

/-! ### Decoding, from the maps of 30_encoding R138 and R139, one word or more per family -/

theorem test_decode_nop : decode [0b00000000] = .ok (.nop, []) := by decide
theorem test_decode_ld_r_n : decode [0b00000110, 0x42] = .ok (.ld_b_n 0x42, []) := by decide
theorem test_decode_ld_r_r : decode [0b01111000] = .ok (.ld_a_b, []) := by decide
theorem test_decode_ld_at_hl_r : decode [0b01110001] = .ok (.ld_at_hl_c, []) := by decide
theorem test_decode_halt : decode [0b01110110] = .ok (.halt, []) := by decide
theorem test_decode_ld_rr_nn : decode [0b00100001, 0x34, 0x12] = .ok (.ld_hl_nn 0x1234, []) := by decide
theorem test_decode_store_sp : decode [0b00001000, 0x00, 0xC1] = .ok (.ld_at_nn_sp 0xC100, []) := by decide
theorem test_decode_ld_at_hld : decode [0b00110010] = .ok (.ld_at_hld_a, []) := by decide
theorem test_decode_ldh : decode [0b11110000, 0x44] = .ok (.ldh_a_at_n 0x44, []) := by decide
theorem test_decode_push_af : decode [0b11110101] = .ok (.push_af, []) := by decide
theorem test_decode_pop_de : decode [0b11010001] = .ok (.pop_de, []) := by decide
theorem test_decode_alu_register : decode [0b10001011] = .ok (.adc_a_e, []) := by decide
theorem test_decode_alu_immediate : decode [0b11111110, 0x2F] = .ok (.cp_n 0x2F, []) := by decide
theorem test_decode_inc_at_hl : decode [0b00110100] = .ok (.inc_at_hl, []) := by decide
theorem test_decode_dec_r : decode [0b00111101] = .ok (.dec_a, []) := by decide
theorem test_decode_add_hl : decode [0b00111001] = .ok (.add_hl_sp, []) := by decide
theorem test_decode_add_sp : decode [0b11101000, 0xFF] = .ok (.add_sp_e 0xFF, []) := by decide
theorem test_decode_rla : decode [0b00010111] = .ok (.rla, []) := by decide
theorem test_decode_cb_rotate : decode [0xCB, 0b00010101] = .ok (.rl_l, []) := by decide
theorem test_decode_cb_bit : decode [0xCB, 0b01111111] = .ok (.bit_7_a, []) := by decide
theorem test_decode_cb_res : decode [0xCB, 0b10000111] = .ok (.res_0_a, []) := by decide
theorem test_decode_cb_set : decode [0xCB, 0b11111110] = .ok (.set_7_at_hl, []) := by decide
theorem test_decode_jp_cond : decode [0b11001010, 0x00, 0x02] = .ok (.jp_z_nn 0x0200, []) := by decide
theorem test_decode_jr_cond : decode [0b00111000, 0x05] = .ok (.jr_c_e 0x05, []) := by decide
theorem test_decode_call_cond : decode [0b11011100, 0x00, 0x20] = .ok (.call_c_nn 0x2000, []) := by decide
theorem test_decode_ret_cond : decode [0b11010000] = .ok (.ret_nc, []) := by decide
theorem test_decode_rst : decode [0b11101111] = .ok (.rst_28, []) := by decide
theorem test_decode_stop : decode [0b00010000, 0x00] = .ok (.stop 0x00, []) := by decide
theorem test_decode_undefined : decode [0xE4, 0x00] = .ok (.undefined_e4, [0x00]) := by decide
theorem test_decode_truncated : decode [0xC3, 0x00] = .error (.truncated 0xC3) := by decide
theorem test_decode_empty : decode [] = .error .noOpcode := by decide

/-- A CB row is numbered `(0xCB << 8) | second byte` (30_encoding, introduction). -/
theorem test_tableWord_cb : decodeTableWord 16 0xCB7C = some .bit_7_h := by decide
theorem test_tableWord_immediate : decodeTableWord 24 0x0200CA = some (.jp_z_nn 0x0200) := by decide

/-! ### Loads (40_loads) -/

theorem test_ld_r_n : (after id [0x06, 0x42]).cpu.b = 0x42 := by decide
theorem test_ld_r_r : (after (fun k => { k with b := 0x12 }) [0x78]).cpu.a = 0x12 := by decide
theorem test_ld_h_at_hl : (afterWith [(0xC000, 0x5A)] (setHl 0xC000 0) [0x66]).cpu.hl = 0x5A00 := by decide
theorem test_ld_at_hl_r :
    memRead (after (fun k => { setHl 0xC010 0 k with b := 0x99 }) [0x70]) 0xC010 = 0x99 := by decide
theorem test_ld_at_hl_n : memRead (after (setHl 0xC000 0) [0x36, 0x7F]) 0xC000 = 0x7F := by decide
theorem test_ld_a_at_bc : (afterWith [(0xC100, 0x33)] (Cpu.setBc 0xC100) [0x0A]).cpu.a = 0x33 := by decide
theorem test_ld_at_de_a :
    memRead (after (fun k => { k.setDe 0xFF80 with a := 0xAA }) [0x12]) 0xFF80 = 0xAA := by decide
theorem test_ld_at_nn_a : memRead (after (setA 0x42 0) [0xEA, 0x00, 0xC0]) 0xC000 = 0x42 := by decide
theorem test_ldh_a_at_n : (after id [0xF0, 0x44]).cpu.a = 0x00 := by decide
theorem test_ld_a_at_c : (after (fun k => { k with c := 0x00 }) [0xF2]).cpu.a = 0xCF := by decide
theorem test_ld_at_hli_wraps :
    (let t := after (setHl 0xFFFF 0) [0x22]; t.cpu.hl == 0x0000 && t.irq.enable == 0x01) = true := by decide
theorem test_ld_a_at_hld :
    (let t := afterWith [(0xC001, 0x80)] (setHl 0xC001 0) [0x3A]; t.cpu.a == 0x80 && t.cpu.hl == 0xC000) = true := by
  decide
theorem test_ld_sp_nn : (after id [0x31, 0xFE, 0xDF]).cpu.sp = 0xDFFE := by decide
theorem test_ld_at_nn_sp :
    (let t := after (setSp 0xFFF8 0) [0x08, 0x00, 0xC1]; memRead t 0xC100 == 0xF8 && memRead t 0xC101 == 0xFF) = true := by
  decide
theorem test_ld_sp_hl : (after (setHl 0xDFF0 0) [0xF9]).cpu.sp = 0xDFF0 := by decide
theorem test_push :
    (let t := after (Cpu.setBc 0x1234) [0xC5]
     memRead t 0xFFFD == 0x12 && memRead t 0xFFFC == 0x34 && t.cpu.sp == 0xFFFC) = true := by decide
theorem test_pop :
    (let t := afterWith [(0xFFFC, 0x34), (0xFFFD, 0x12)] (setSp 0xFFFC 0) [0xC1]
     t.cpu.bc == 0x1234 && t.cpu.sp == 0xFFFE) = true := by decide
theorem test_pop_af :
    (let t := afterWith [(0xFFFC, 0xFF), (0xFFFD, 0x12)] (setSp 0xFFFC 0) [0xF1]
     t.cpu.a == 0x12 && t.cpu.f.toByte == 0xF0) = true := by decide

/-! ### 8-bit arithmetic and logic (41_alu8, 95_test_vectors section 2) -/

theorem test_add : ends (after (fun k => { setA 0x3A 0 k with b := 0xC6 }) [0x80]) 0x00 0xB0 1 0x0101 = true := by decide
theorem test_add_half_carry : ends (after (setA 0x0F 0) [0xC6, 0x01]) 0x10 0x20 2 0x0102 = true := by decide
theorem test_adc :
    ends (after (fun k => { setA 0xE1 0x10 k with e := 0x0F }) [0x8B]) 0xF1 0x20 1 0x0101 = true := by decide
theorem test_adc_wraps : ends (after (setA 0xFF 0x10) [0xCE, 0x00]) 0x00 0xB0 2 0x0102 = true := by decide
theorem test_sub_equal :
    ends (after (fun k => { setA 0x3E 0 k with e := 0x3E }) [0x93]) 0x00 0xC0 1 0x0101 = true := by decide
theorem test_sub_borrows : ends (after (setA 0x00 0) [0xD6, 0x01]) 0xFF 0x70 2 0x0102 = true := by decide
theorem test_sbc :
    ends (after (fun k => { setA 0x3B 0x10 k with h := 0x2A }) [0x9C]) 0x10 0x40 1 0x0101 = true := by decide
theorem test_sbc_full_subtrahend : ends (after (setA 0x10 0x10) [0xDE, 0xFF]) 0x10 0x70 2 0x0102 = true := by decide
theorem test_cp : ends (after (setA 0x3C 0) [0xFE, 0x2F]) 0x3C 0x60 2 0x0102 = true := by decide
theorem test_and : ends (after (setA 0x5A 0) [0xE6, 0x38]) 0x18 0x20 2 0x0102 = true := by decide
theorem test_xor : ends (after (setA 0xFF 0x70) [0xEE, 0x0F]) 0xF0 0x00 2 0x0102 = true := by decide
theorem test_or : ends (after (setA 0x00 0x70) [0xB7]) 0x00 0x80 1 0x0101 = true := by decide
theorem test_alu_at_hl :
    ends (afterWith [(0xC000, 0x01)] (fun k => { setHl 0xC000 0 k with a := 0x0F }) [0x86]) 0x10 0x20 2 0x0101 = true := by
  decide
theorem test_inc_wraps_keeping_carry : ends (after (setA 0xFF 0x10) [0x3C]) 0x00 0xB0 1 0x0101 = true := by decide
theorem test_inc_at_hl :
    (let t := afterWith [(0xC000, 0xFF)] (setHl 0xC000 0) [0x34]; memRead t 0xC000 == 0x00 && flagsAnd t 0xA0 3) = true := by
  decide
theorem test_dec : ends (after (setA 0x10 0) [0x3D]) 0x0F 0x60 1 0x0101 = true := by decide
theorem test_dec_at_hl :
    (let t := afterWith [(0xC000, 0x01)] (setHl 0xC000 0) [0x35]; memRead t 0xC000 == 0x00 && flagsAnd t 0xC0 3) = true := by
  decide
theorem test_daa_after_add : ends (after (setA 0x9A 0x00) [0x27]) 0x00 0x90 1 0x0101 = true := by decide
theorem test_daa_after_sub : ends (after (setA 0xFF 0x70) [0x27]) 0x99 0x50 1 0x0101 = true := by decide
theorem test_cpl : ends (after (setA 0x35 0x90) [0x2F]) 0xCA 0xF0 1 0x0101 = true := by decide
theorem test_scf : ends (after (setA 0x01 0xE0) [0x37]) 0x01 0x90 1 0x0101 = true := by decide
theorem test_ccf : ends (after (setA 0x01 0x60) [0x3F]) 0x01 0x10 1 0x0101 = true := by decide

/-! ### 16-bit arithmetic (42_alu16) -/

theorem test_inc_rr : (after (Cpu.setDe 0x00FF) [0x13]).cpu.de = 0x0100 := by decide
theorem test_dec_rr_keeps_flags :
    (let t := after (fun k => setF 0xF0 (k.setDe 0x0000)) [0x1B]; t.cpu.de == 0xFFFF && flagsAnd t 0xF0 2) = true := by decide
theorem test_add_hl_bc :
    (let t := after (fun k => setHl 0x8A23 0x80 (k.setBc 0x0605)) [0x09]; t.cpu.hl == 0x9028 && flagsAnd t 0xA0 2) = true := by
  decide
theorem test_add_hl_hl :
    (let t := after (setHl 0xFFFF 0x80) [0x29]; t.cpu.hl == 0xFFFE && flagsAnd t 0xB0 2) = true := by decide
theorem test_add_sp_negative :
    (let t := after (setSp 0x00FF 0xF0) [0xE8, 0xFF]; t.cpu.sp == 0x00FE && flagsAnd t 0x30 4) = true := by decide
theorem test_ld_hl_sp :
    (let t := after (setSp 0x000F 0xF0) [0xF8, 0x01]; t.cpu.hl == 0x0010 && t.cpu.sp == 0x000F && flagsAnd t 0x20 3) = true := by
  decide

/-! ### Rotates, shifts and bits (43_rotate_shift_bit) -/

theorem test_rlca : ends (after (setA 0x85 0) [0x07]) 0x0B 0x10 1 0x0101 = true := by decide
theorem test_rlca_zero_clears_z : ends (after (setA 0x00 0x80) [0x07]) 0x00 0x00 1 0x0101 = true := by decide
theorem test_rrca : ends (after (setA 0x3B 0) [0x0F]) 0x9D 0x10 1 0x0101 = true := by decide
theorem test_rla : ends (after (setA 0x95 0x10) [0x17]) 0x2B 0x10 1 0x0101 = true := by decide
theorem test_rra : ends (after (setA 0x81 0) [0x1F]) 0x40 0x10 1 0x0101 = true := by decide
theorem test_rlc :
    (let t := after (fun k => setF 0 { k with b := 0x85 }) [0xCB, 0x00]; t.cpu.b == 0x0B && flagsAnd t 0x10 2) = true := by
  decide
theorem test_rrc :
    (let t := after (fun k => setF 0 { k with c := 0x01 }) [0xCB, 0x09]; t.cpu.c == 0x80 && flagsAnd t 0x10 2) = true := by
  decide
theorem test_rl :
    (let t := after (fun k => setF 0 { k with l := 0x80 }) [0xCB, 0x15]; t.cpu.l == 0x00 && flagsAnd t 0x90 2) = true := by
  decide
theorem test_rr : ends (after (setA 0x01 0) [0xCB, 0x1F]) 0x00 0x90 2 0x0102 = true := by decide
theorem test_sla :
    (let t := after (fun k => setF 0 { k with d := 0xFF }) [0xCB, 0x22]; t.cpu.d == 0xFE && flagsAnd t 0x10 2) = true := by
  decide
theorem test_sra : ends (after (setA 0x8A 0) [0xCB, 0x2F]) 0xC5 0x00 2 0x0102 = true := by decide
theorem test_swap : ends (after (setA 0xF1 0x70) [0xCB, 0x37]) 0x1F 0x00 2 0x0102 = true := by decide
theorem test_srl : ends (after (setA 0xFF 0) [0xCB, 0x3F]) 0x7F 0x10 2 0x0102 = true := by decide
theorem test_bit_at_hl : flagsAnd (after (setHl 0xC000 0x10) [0xCB, 0x46]) 0xB0 3 = true := by decide
theorem test_bit_7_a : ends (after (setA 0x80 0) [0xCB, 0x7F]) 0x80 0x20 2 0x0102 = true := by decide
theorem test_res : ends (after (setA 0xFF 0x50) [0xCB, 0x87]) 0xFE 0x50 2 0x0102 = true := by decide
theorem test_set_at_hl :
    (let t := after (setHl 0xC000 0x50) [0xCB, 0xFE]; memRead t 0xC000 == 0x80 && flagsAnd t 0x50 4) = true := by decide

/-! ### Control (44_control) -/

theorem test_jp_z_taken : ends (after (setA 0x00 0x80) [0xCA, 0x00, 0x02]) 0x00 0x80 4 0x0200 = true := by decide
theorem test_jp_z_not_taken : ends (after (setA 0x01 0x00) [0xCA, 0x00, 0x02]) 0x01 0x00 3 0x0103 = true := by decide
theorem test_jp_hl : (after (setHl 0xC000 0) [0xE9]).cpu.pc = 0xC000 := by decide
theorem test_jr_back : (after id [0x18, 0x80]).cpu.pc = 0x0082 := by decide
theorem test_jr_nz_not_taken : ends (after (setA 0x00 0x80) [0x20, 0x05]) 0x00 0x80 2 0x0102 = true := by decide
theorem test_call :
    (let t := after id [0xCD, 0x00, 0x20]
     t.cpu.pc == 0x2000 && memRead t 0xFFFD == 0x01 && memRead t 0xFFFC == 0x03 && t.cpu.sp == 0xFFFC) = true := by decide
theorem test_call_c_not_taken :
    (let t := after (setF 0) [0xDC, 0x00, 0x20]; t.cpu.pc == 0x0103 && t.cpu.sp == 0xFFFE && t.elapsed == 3) = true := by
  decide
theorem test_ret :
    (let t := afterWith [(0xFFFC, 0x53), (0xFFFD, 0x01)] (setSp 0xFFFC 0) [0xC9]
     t.cpu.pc == 0x0153 && t.cpu.sp == 0xFFFE && t.elapsed == 4) = true := by decide
theorem test_ret_nz_not_taken :
    (let t := after (setSp 0xFFFC 0x80) [0xC0]; t.cpu.pc == 0x0101 && t.cpu.sp == 0xFFFC && t.elapsed == 2) = true := by
  decide
theorem test_reti :
    (let t := afterWith [(0xFFFC, 0x34), (0xFFFD, 0x12)] (setSp 0xFFFC 0) [0xD9]
     t.cpu.pc == 0x1234 && t.cpu.sp == 0xFFFE && t.cpu.ime) = true := by decide
theorem test_rst :
    (let t := after id [0xEF]; t.cpu.pc == 0x0028 && memRead t 0xFFFD == 0x01 && memRead t 0xFFFC == 0x01) = true := by
  decide

/-! ### System (45_system, 60_exceptions) -/

/-- 64_scheduler R608: the first step after reset. -/
theorem test_nop_timing :
    (let t := after id [0x00]; t.ppu.dot == 4 && t.timer.divCounter == 0xABD0 && t.cycles == 4) = true := by decide
theorem test_halt : (after id [0x76]).cpu.mode = .halted := by decide
/-- 45_system R392's example: IME = 0 and the timer's interrupt pending. -/
theorem test_halt_bug :
    (match step (placeBytes [0x76] 0x0100 { State.reset with irq := ⟨0b00100, 0b00100⟩ }) with
     | .next t => t.cpu.haltBug && t.cpu.mode == .running
     | _ => false) = true := by decide
/-- 45_system R393's example: `LD B, n` under the bug takes its own opcode as the immediate. -/
theorem test_halt_bug_immediate :
    (let t := after (fun k => { k with haltBug := true }) [0x06, 0x42]
     t.cpu.b == 0x06 && t.cpu.pc == 0x0101 && !t.cpu.haltBug) = true := by decide
theorem test_stop :
    (let t := after id [0x10, 0x00, 0x3C]
     t.cpu.pc == 0x0102 && t.cpu.mode == .stopped && t.timer.divCounter == 0 && t.ppu.dot == 0) = true := by decide
theorem test_di : (after (fun k => { k with ime := true, eiDelay := 1 }) [0xF3]).cpu.ime = false := by decide
theorem test_ei :
    (let t := after id [0xFB]; t.cpu.eiDelay == 1 && !t.cpu.ime) = true := by decide
theorem test_undefined_locks :
    (let t := after id [0xD3]
     t.cpu.pc == 0x0101 && t.cpu.mode == .locked &&
       t.diagnostic == some { op := 0xD3, addr := 0x0100, cause := .undefinedOpcode }) = true := by decide
/-- 60_exceptions R430, source scenario 5. -/
theorem test_interrupt :
    (match step (onCpu (fun k => { k with ime := true, pc := 0x1234 }) { State.reset with irq := ⟨1, 1⟩ }) with
     | .next t =>
       memRead t 0xFFFD == 0x12 && memRead t 0xFFFC == 0x34 && t.cpu.sp == 0xFFFC && t.cpu.pc == 0x0040 &&
         t.irq.flag == 0 && !t.cpu.ime && t.cycles == 20
     | _ => false) = true := by decide

/-! ### Devices -/

/-- The timer of 61_timer R479: `TAC = 0x05`, `TIMA = 0xFF`, `TMA = 0x42`, the counter at 0x0004. -/
def timerAtFF : State :=
  { State.reset with
    irq := ⟨0, 0⟩
    timer := { divCounter := 4, tima := 0xFF, tma := 0x42, tac := 0b101, prevSample := false, overflowPending := false } }

theorem test_timer_overflow :
    (let t := repeatN 3 timerMCycle timerAtFF; t.timer.tima == 0x00 && t.timer.overflowPending && t.irq.flag == 0) = true := by
  decide
theorem test_timer_reload :
    (let t := repeatN 4 timerMCycle timerAtFF; t.timer.tima == 0x42 && t.irq.flag == 0b00100) = true := by decide
/-- 61_timer R480. -/
theorem test_timer_cancel :
    (let t := timerMCycle (memWrite 0xFF05 0x55 (repeatN 3 timerMCycle timerAtFF))
     t.timer.tima == 0x55 && t.irq.flag == 0) = true := by decide
/-- 63_ppu R556's example and source scenario 6: bytes `3C 7E` give pixels `0 2 3 3 3 3 2 0`. -/
theorem test_tile_row :
    (List.range 8).map (tilePixel { State.reset with mem := [(0x8000, 0x3C), (0x8001, 0x7E)] } 0x8000 0) =
      [0, 2, 3, 3, 3, 3, 2, 0] := by decide
/-- 63_ppu R532, R550 with R556's example: the row reaches the framebuffer at the tick that leaves dot 79, not before. -/
theorem test_tick_composes :
    (let s := fun d => { State.reset with
       mem := [(0x8000, 0x3C), (0x8001, 0x7E)], ppu := { State.reset.ppu with dot := d, bgp := 0xE4 } }
     ((ppuTick (s 79)).ppu.fb.row 0).take 8 == [0, 2, 3, 3, 3, 3, 2, 0] && (ppuTick (s 78)).ppu.fb == []) = true := by
  decide
/-- 62_serial_joypad R511, 64_scheduler R604: a queued press of a selected key requests the interrupt and is dropped. -/
theorem test_host_phase :
    (let t := hostPhase { State.reset with joypad := { State.reset.joypad with select := 0b01 }, inputs := [[⟨.a, true⟩]] }
     t.joypad.buttons.a && t.irq.flag.getLsbD 4 && t.inputs == []) = true := by decide
/-- 62_serial_joypad R514's example: `A` held, a write of 0x10. -/
theorem test_joypad :
    (let s := { State.reset with joypad := { select := 0b11, buttons := { Buttons.released with a := true } } }
     let t := memWrite 0xFF00 0x10 s
     memRead t 0xFF00 == 0xDE && t.irq.flag.getLsbD 4) = true := by decide
/-- 62_serial_joypad R501's example. -/
theorem test_serial :
    (let t := memWrite 0xFF02 0x81 { State.reset with serial := { State.reset.serial with sb := 0x50 } }
     t.serial.sb == 0x00 && memRead t 0xFF02 == 0x7F && t.irq.flag.getLsbD 3) = true := by decide
theorem test_echo : memRead (after (setA 0x3C 0) [0xEA, 0x00, 0xE0]) 0xC000 = 0x3C := by decide
theorem test_unusable : (after id [0xFA, 0xA0, 0xFE]).cpu.a = 0xFF := by decide

/-! ### Witnesses: for each statement with hypotheses, values that meet them -/

/-- Reset with bytes at 0x0100. -/
def loaded (bytes : List Byte) : State := placeBytes bytes 0x0100 State.reset

/-- The instruction a step would fetch, none in a step that fetches none. -/
def fetched (s : State) : Option Instr :=
  match beginStep (hostPhase s) with
  | .fetch u => some (fetchInstr u).1
  | .over _ => none

/-- A state in the middle of a frame, with a byte of WRAM written. -/
def midFrame : State :=
  { loaded [0x00] with
    mem := [(0xC000, 0x01)], ppu := { State.reset.ppu with ly := 3, dot := 100, mode := .drawing } }

def timedParams : Params := { Params.default with dmaMode := .timed }

/-- A timed transfer at its last byte. -/
def timedLast : State :=
  { State.reset with cfg := timedParams, dma := { page := 0xC0, active := true, source := 0xC000, index := 159 } }

theorem witness_EncodeThenDecode : (Instr.jp_nn 0x1234).wellFormed = true := by decide

theorem witness_DecodeThenEncode : decode [0xCB, 0x7C, 0x00] = .ok (.bit_7_h, [0x00]) := by decide

theorem witness_UndefinedOpcodes :
    ((0xFD : Byte), Instr.undefined_fd) ∈ undefinedRows ∧ (0xFE : Byte) ∉ undefinedRows.map Prod.fst := by decide

theorem witness_StepRunsDecodedInstruction :
    (let t := hostPhase (loaded [0x3E, 0x07])
     t.cpu.mode = .running ∧ ¬(interruptPending t = true ∧ t.cpu.ime = true) ∧ t.cpu.haltBug = false ∧
       decode [codeByte t 0, codeByte t 1, codeByte t 2] = .ok (.ld_a_n 0x07, [0x00])) ∧
    (let t := hostPhase (onCpu (fun k => { k with mode := .halted }) { loaded [0x00] with irq := ⟨1, 1⟩ })
     (t.cpu.mode = .halted ∧ interruptPending t = true) ∧ ¬(interruptPending t = true ∧ t.cpu.ime = true) ∧
       t.cpu.haltBug = false ∧ decode [codeByte t 0, codeByte t 1, codeByte t 2] = .ok (.nop, [0x00, 0x00])) := by decide

theorem witness_HaltBugRepeatsOpcode :
    let t := hostPhase (onCpu (fun k => { k with haltBug := true }) { loaded [0x06, 0x42] with irq := ⟨1, 1⟩ })
    let u := onCpu (fun k => { k with haltBug := false }) t
    t.cpu.mode = .running ∧ ¬(interruptPending t = true ∧ t.cpu.ime = true) ∧ t.cpu.haltBug = true ∧
      decode [memRead t t.cpu.pc, codeByte u 0, codeByte u 1] = .ok (.ld_b_n 0x06, [0x42]) := by decide

theorem witness_IdleStep :
    (hostPhase (onCpu (fun k => { k with mode := .locked }) State.reset)).cpu.mode = .locked ∧
    (hostPhase (onCpu (fun k => { k with mode := .stopped }) State.reset)).cpu.mode = .stopped ∧
    (let t := hostPhase (onCpu (fun k => { k with mode := .halted }) State.reset)
     t.cpu.mode = .halted ∧ interruptPending t = false) := by decide

/-- The source `k` alone pending, the lowest and the highest; and the push into `IE` that cancels it. -/
theorem witness_InterruptDispatch :
    (let t := onCpu (fun k => { k with ime := true }) { State.reset with irq := ⟨0b00001, 0b11111⟩ }
     let p := push16 t.cpu.pc (onCpu (fun k => { k with mode := .running, haltBug := false }) t)
     t.cpu.mode = .running ∧ interruptPending t = true ∧ t.cpu.ime = true ∧
       (p.irq.flag &&& p.irq.enable).getLsbD 0 = true) ∧
    (let t := onCpu (fun k => { k with ime := true, mode := .halted }) { State.reset with irq := ⟨0b10000, 0b11111⟩ }
     let p := push16 t.cpu.pc (onCpu (fun k => { k with mode := .running, haltBug := false }) t)
     t.cpu.mode = .halted ∧ interruptPending t = true ∧ t.cpu.ime = true ∧
       (p.irq.flag &&& p.irq.enable).getLsbD 4 = true ∧
       ∀ j : Nat, j < 4 → (p.irq.flag &&& p.irq.enable).getLsbD j = false) ∧
    (let t := onCpu (fun k => { k with ime := true, sp := 0x0000 }) { State.reset with irq := ⟨0b10000, 0b10000⟩ }
     let p := push16 t.cpu.pc (onCpu (fun k => { k with mode := .running, haltBug := false }) t)
     t.cpu.mode = .running ∧ interruptPending t = true ∧ t.cpu.ime = true ∧ p.irq.flag &&& p.irq.enable = 0) := by decide

/-- A step of each kind, at each value of the counter. -/
theorem witness_EiDelayCounter :
    (fetched (loaded [0xFB]) = some .ei ∧ ∃ t, step (loaded [0xFB]) = .next t) ∧
    (fetched (loaded [0xF3]) = some .di ∧ ∃ t, step (loaded [0xF3]) = .next t) ∧
    (fetched (onCpu (fun k => { k with eiDelay := 1 }) (loaded [0x00])) = some .nop ∧
      ∃ t, step (onCpu (fun k => { k with eiDelay := 1 }) (loaded [0x00])) = .next t) ∧
    (fetched (onCpu (fun k => { k with eiDelay := 2 }) (loaded [0xD9])) = some .reti ∧
      ∃ t, step (onCpu (fun k => { k with eiDelay := 2 }) (loaded [0xD9])) = .next t) ∧
    (fetched (onCpu (fun k => { k with mode := .halted }) (loaded [0x00])) = none ∧
      ∃ t, step (onCpu (fun k => { k with mode := .halted }) (loaded [0x00])) = .next t) :=
  ⟨⟨by decide, _, rfl⟩, ⟨by decide, _, rfl⟩, ⟨by decide, _, rfl⟩, ⟨by decide, _, rfl⟩, ⟨by decide, _, rfl⟩⟩

theorem witness_StepKeepsInvariant : State.Inv midFrame ∧ ∃ t, step midFrame = .next t := by
  refine ⟨?_, _, rfl⟩
  constructor
  case mem_storage =>
    intro c hc
    have : c = (0xC000, 0x01) := by simpa [midFrame] using hc
    rw [this]
    exact .inl (by decide)
  all_goals decide

theorem witness_ResetMeetsInvariant : Memory.wf [(0x0000, 0x31), (0x00FF, 0x50)] := by decide

theorem witness_ResetProfiles :
    Params.default.resetProfile = .postBoot ∧ { Params.default with resetProfile := .bootRom }.resetProfile = .bootRom := by
  decide

theorem witness_RegistersWrittenAsTheTableSays :
    (∃ t, exec .scf State.reset = .next t) ∧ writesReg8 (encode .scf) .a = false ∧ (encode .scf).headD 0 ∉ spWriters ∧
      (encode .scf).headD 0 ∉ pcWriters ∧ State.reset.cfg.stopMode = .waitButton := ⟨⟨_, rfl⟩, by decide⟩

theorem witness_FlagsWrittenAsTheTableSays : ∃ t, exec .daa State.reset = .next t := ⟨_, rfl⟩

theorem witness_ModeAndInterruptControlWriters :
    (∃ t, exec .halt State.reset = .next t ∧ t.cpu.mode ≠ State.reset.cpu.mode) ∧
    (∃ t, exec (.stop 0) State.reset = .next t ∧ t.cpu.mode ≠ State.reset.cpu.mode) ∧
    (∃ t, exec .undefined_d3 State.reset = .next t ∧ t.cpu.mode ≠ State.reset.cpu.mode) :=
  ⟨⟨_, rfl, by decide⟩, ⟨_, rfl, by decide⟩, ⟨_, rfl, by decide⟩⟩

theorem witness_StepAlwaysGoesOn : State.reset.bootDisabled = true := by decide

/-- A store beside the address read, and `STOP` away from `DIV`. -/
theorem witness_StoresReachOnlyTheirAddresses :
    ((∃ t, exec .ld_at_hl_b (onCpu (Cpu.setHl 0xC000) State.reset) = .next t) ∧
      storeAddresses .ld_at_hl_b (onCpu (Cpu.setHl 0xC000) State.reset) = [0xC000] ∧
      writeReaches Params.default 0xC000 0xC001 = false ∧ writeReaches Params.default 0xC000 0xE000 = true) ∧
    ((∃ t, exec (.stop 0) State.reset = .next t) ∧ storeAddresses (.stop 0) State.reset = [] ∧
      (0xFF05 : Word) ≠ 0xFF04) := ⟨⟨⟨_, rfl⟩, by decide⟩, ⟨⟨_, rfl⟩, by decide⟩⟩

theorem not_audio (a : Word) (h : a.toNat < 0xFF10 ∨ 0xFF3F < a.toNat) : ¬AudioAddr a := by
  unfold AudioAddr
  omega

theorem witness_StoresReachOnlyTheirAddresses_audio : ¬AudioAddr 0xFF0F ∧ ¬AudioAddr 0xFF40 :=
  ⟨not_audio _ (by decide), not_audio _ (by decide)⟩

/-- Each kind of plain storage at a boundary, HRAM under a timed transfer too. -/
theorem witness_StorageReadsBack :
    PlainStorage State.reset 0x8000 ∧ PlainStorage State.reset 0x9FFF ∧ PlainStorage State.reset 0xDDFF ∧
    PlainStorage State.reset 0xDFFF ∧ PlainStorage State.reset 0xE000 ∧ PlainStorage State.reset 0xFDFF ∧
    PlainStorage timedLast 0xFF80 ∧ PlainStorage timedLast 0xFFFE ∧ regionOf 0xFDFF = .echo ∧ regionOf 0xDDFF = .wram := by
  refine ⟨⟨?_, ?_⟩, ⟨?_, ?_⟩, ⟨?_, ?_⟩, ⟨?_, ?_⟩, ⟨?_, ?_⟩, ⟨?_, ?_⟩, ⟨?_, ?_⟩, ⟨?_, ?_⟩, ?_, ?_⟩ <;> decide

/-- Both ends of OAM, a blocked write and one that is not, and both ends of the unusable region. -/
theorem witness_OamAndUnusableRegion :
    dmaGated State.reset 0xFE00 = false ∧ dmaGated State.reset 0xFE9F = false ∧
    (State.reset.cfg.oamWriteBlock = true ∧ State.reset.ppu.lcdc.getLsbD 7 = true ∧ State.reset.ppu.mode = .oamScan) ∧
    ¬(({ State.reset with ppu := { State.reset.ppu with mode := .vblank } }).ppu.mode = .oamScan) ∧
    (0xFEA0 ≤ (0xFEA0 : Word).toNat ∧ (0xFEFF : Word).toNat ≤ 0xFEFF) := by decide

/-- No timed transfer: the hypothesis of the statements about register writes. -/
theorem witness_noTransfer : State.reset.dma.active = false ∧ State.reset.cfg.dmaMode = .instant := by decide

theorem witness_IoRegistersReadBack :
    State.reset.dma.active = false ∧ State.reset.cfg.dmaMode = .instant ∧
    (0xFF08 ≤ (0xFF08 : Word).toNat ∧ (0xFF0E : Word).toNat ≤ 0xFF0E) ∧ (0xFF7F : Word).toNat ≤ 0xFF7F := by decide

theorem witness_BootOverlay :
    State.reset.dma.active = false ∧ State.reset.bootDisabled = true ∧ (0x01 : Byte) ≠ 0 ∧
    (State.resetWith { Params.default with resetProfile := .bootRom }).bootDisabled = false ∧
    (State.resetWith { Params.default with resetProfile := .bootRom }).dma.active = false ∧
    (0x00FF : Word).toNat ≤ 0x00FF ∧ State.reset.cartWrites = [] ∧
    (0x0100 ≤ (0x0100 : Word).toNat ∧ (0x7FFF : Word).toNat ≤ 0x7FFF) ∧
    (0xA000 ≤ (0xA000 : Word).toNat ∧ (0xBFFF : Word).toNat ≤ 0xBFFF) := by decide

theorem witness_InstantDmaCopies : State.reset.cfg.dmaMode = .instant := by decide

/-- The addresses around HRAM, its two ends, and the register that a write restarts the transfer through. -/
theorem witness_TimedDmaRuns :
    timedLast.cfg.dmaMode = .timed ∧ timedLast.dma.active = true ∧ timedLast.dma.index < 160 ∧
    ({ State.reset with cfg := timedParams }).dma.active = false ∧
    ¬(0xFF80 ≤ (0xFF46 : Word).toNat) ∧ ((0xFF45 : Word) ≠ 0xFF46 ∧ (0xFF47 : Word) ≠ 0xFF46) ∧
    ¬(0xFF80 ≤ (0xFF7F : Word).toNat) ∧ ¬((0xFFFF : Word).toNat ≤ 0xFFFE) ∧
    (0xFF80 ≤ (0xFF80 : Word).toNat ∧ (0xFFFE : Word).toNat ≤ 0xFFFE) := by decide

/-- 20_memory R102: a write during an active transfer restarts it; R105: any other write outside HRAM is discarded. -/
theorem test_dma_restart :
    memWrite 0xFF46 0xD0 timedLast =
      { timedLast with dma := { page := 0xD0, active := true, source := 0xD000, index := 0 } } ∧
    memWrite 0xFF47 0x1B timedLast = timedLast := by decide

theorem witness_StackRoundTrips :
    PlainStorage State.reset (State.reset.cpu.sp - 1) ∧ PlainStorage State.reset (State.reset.cpu.sp - 2) :=
  ⟨⟨by decide, by decide⟩, ⟨by decide, by decide⟩⟩

/-- The equations of `AddAndAdc`, `SubSbcAndCp`, `AndXorOr`, `IncAndDec8`, `PairArithmetic`, `RotatesAndShifts` and
`BitOperations` name values of the state; here they are at one state. -/
theorem witness_operand_equations :
    0x01 = State.reset.cpu.a.toNat ∧ 0x4D = (readSource State.reset (.op (.reg .l))).toNat ∧
    1 = State.reset.cpu.f.c.toNat ∧ 0x4D = readSource State.reset (.op (.reg .l)) ∧
    0x4D = (readOperand State.reset (.reg .l)).toNat ∧ 0x4D = readOperand State.reset (.reg .l) ∧
    0x014D = State.reset.cpu.hl.toNat ∧ 0xFFFE = (State.reset.cpu.pair .sp).toNat ∧ 0x9B = rotateValue .rl 0x4D 1 := by
  decide

/-- Both branches, with both adjustments and with neither. -/
theorem witness_DaaCplScfCcf :
    (let s := onCpu (setA 0x9A 0x00) State.reset
     s.cpu.f.n = false ∧ (0x60 : Nat) = (if s.cpu.f.c = true ∨ s.cpu.a.toNat > 0x99 then 0x60 else 0) ∧
       (0x06 : Nat) = (if s.cpu.f.h = true ∨ s.cpu.a.toNat % 16 > 9 then 0x06 else 0)) ∧
    (let s := onCpu (setA 0x99 0x40) State.reset
     s.cpu.f.n = true ∧ (0 : Nat) = (if s.cpu.f.c = true then 0x60 else 0) ∧
       (0 : Nat) = (if s.cpu.f.h = true then 0x06 else 0)) := by decide

theorem witness_DecimalArithmetic : (onCpu (setA 0x99 0) State.reset).cpu.a = byteOf (16 * 9 + 9) := by decide

theorem witness_StackPointerOffset :
    (⟨false, false, true, true⟩ : Flags) =
        ⟨false, false, decide ((0x00FF : Word).toNat % 16 + (0xFF : Byte).toNat % 16 > 0x0F),
          decide ((0x00FF : Word).toNat % 256 + (0xFF : Byte).toNat > 0xFF)⟩ ∧
      ((0x00FE : Word).toNat : Int) = (((0x00FF : Word).toNat : Int) + (0xFF : Byte).toInt) % 65536 := by decide

/-- A displacement back past 0x0000 and one on past 0xFFFF. -/
theorem witness_Jumps :
    ((0xFF80 : Word).toNat : Int) = (((0x0000 : Word).toNat : Int) + (0x80 : Byte).toInt) % 65536 ∧
      ((0x0012 : Word).toNat : Int) = (((0xFFF2 : Word).toNat : Int) + (0x20 : Byte).toInt) % 65536 := by decide

theorem witness_Returns :
    let s := onCpu (setSp 0xFFFC 0) { State.reset with mem := [(0xFFFC, 0x53), (0xFFFD, 0x01)] }
    (0x0153 : Word).toNat = 256 * (memRead s (s.cpu.sp + 1)).toNat + (memRead s s.cpu.sp).toNat := by decide

/-- The four cases of `HALT`. -/
theorem witness_NopDiEiHalt :
    (onCpu (fun k => { k with ime := true }) State.reset).cpu.ime = true ∧
    (State.reset.cpu.ime = false ∧ State.reset.irq.flag &&& State.reset.irq.enable = 0) ∧
    (let s := { State.reset with irq := ⟨1, 1⟩ }
     s.cpu.ime = false ∧ s.irq.flag &&& s.irq.enable ≠ 0 ∧ s.cfg.haltBug = true) ∧
    (let s := { State.reset with irq := ⟨1, 1⟩, cfg := { Params.default with haltBug := false } }
     s.cpu.ime = false ∧ s.irq.flag &&& s.irq.enable ≠ 0 ∧ s.cfg.haltBug = false) := by decide

theorem witness_StopAndUndefined :
    ((0xD3 : Byte), Instr.undefined_d3) ∈ undefinedRows ∧ Params.default.stopMode = .waitButton ∧
    { Params.default with stopMode := .refuse }.stopMode = .refuse ∧ Params.default.illegalOpcodeMode = .lock ∧
    { Params.default with illegalOpcodeMode := .nop }.illegalOpcodeMode = .nop := by decide

/-- The falling edge of 61_timer R479's third M-cycle. -/
theorem witness_TimerCycle :
    let s := repeatN 2 timerMCycle timerAtFF
    (0xFF : Byte) = (if s.timer.overflowPending then s.timer.tma else s.timer.tima) ∧
      (0x0010 : Word) = s.timer.divCounter + 4 ∧
      false = (s.timer.tac.getLsbD 2 &&
        (0x0010 : Word).getLsbD (if s.timer.tac.toNat % 4 = 0 then 9 else if s.timer.tac.toNat % 4 = 1 then 3
          else if s.timer.tac.toNat % 4 = 2 then 5 else 7)) ∧ true = (s.timer.prevSample && !false) := by decide

theorem witness_TimerWrites :
    let s := repeatN 2 timerMCycle timerAtFF
    s.dma.active = false ∧ true = timerSignal s.timer.tac s.timer.divCounter ∧
      false = timerSignal ((0x00 : Byte).extractLsb' 0 3) s.timer.divCounter := by decide

/-- Up to the last count before the overflow: three M-cycles, one increment, from 0xFE. -/
theorem witness_TimaRate :
    let s := { timerAtFF with timer := { timerAtFF.timer with tima := 0xFE } }
    s.timer.tac.getLsbD 2 = true ∧ 3 = timerBit s.timer.tac ∧
      s.timer.prevSample = timerSignal s.timer.tac s.timer.divCounter ∧ s.timer.overflowPending = false ∧
      1 = (s.timer.divCounter.toNat + 4 * 3) / 2 ^ (3 + 1) - s.timer.divCounter.toNat / 2 ^ (3 + 1) ∧
      s.timer.tima.toNat + 1 ≤ 255 := by decide

/-- The first dot of a frame, and the last dot before V-blank. -/
theorem witness_PpuFrameTiming :
    State.reset.ppu.OnTrack ∧ ({ State.reset.ppu with ly := 143, dot := 455, mode := .hblank } : Ppu).OnTrack ∧
      ({ State.reset.ppu with ly := 143, dot := 455, mode := .hblank } : Ppu).position = 143 * 456 + 455 :=
  ⟨⟨by decide, by decide, by decide, by decide⟩, ⟨by decide, by decide, by decide, by decide⟩, by decide⟩

theorem witness_StatInterrupts : State.reset.ppu.OnTrack ∧ State.reset.dma.active = false :=
  ⟨witness_PpuFrameTiming.1, by decide⟩

/-- The tick that composes the last visible line, the one that clears the window counter, and one that does neither. -/
theorem witness_PpuTouchesOnlyItself :
    (let p := { State.reset.ppu with ly := 143, dot := 79 }
     p.lcdc.getLsbD 7 = true ∧ p.ly.toNat < 144 ∧ p.dot = 79) ∧
    (let p := { State.reset.ppu with ly := 153, dot := 455, mode := .vblank }
     p.lcdc.getLsbD 7 = true ∧ ¬(p.ly.toNat < 144 ∧ p.dot = 79) ∧ p.ly.toNat = 153 ∧ p.dot = 455) ∧
    ¬(State.reset.ppu.ly.toNat < 144 ∧ State.reset.ppu.dot = 79) := by decide

theorem witness_LcdOnAndOff :
    State.reset.dma.active = false ∧ State.reset.ppu.lcdc.getLsbD 7 = true ∧ (0x11 : Byte).getLsbD 7 = false ∧
    ({ State.reset with ppu := { State.reset.ppu with lcdc := 0x11 } }).ppu.lcdc.getLsbD 7 = false ∧
    (0x91 : Byte).getLsbD 7 = true := by decide

/-- The equations at the last pixel of the last line, of the background and under the window. -/
theorem witness_ComposedLine :
    (let s := State.reset
     143 < 144 ∧ 159 < 160 ∧
       false = (s.ppu.lcdc.getLsbD 5 && decide (s.ppu.wy.toNat ≤ 143) && decide (s.ppu.wx.toNat ≤ 159 + 7)) ∧
       159 = (159 + s.ppu.scx.toNat) % 256 ∧ 143 = (143 + s.ppu.scy.toNat) % 256) ∧
    (let s := { State.reset with ppu := { State.reset.ppu with lcdc := 0xB1, wy := 143, wx := 166 } }
     true = (s.ppu.lcdc.getLsbD 5 && decide (s.ppu.wy.toNat ≤ 143) && decide (s.ppu.wx.toNat ≤ 159 + 7)) ∧
       0 = 159 + 7 - s.ppu.wx.toNat) := by decide

theorem witness_SpriteSelection : ({ State.reset.ppu with lcdc := 0x93 } : Ppu).lcdc.getLsbD 1 = true := by decide

/-- Sprite 3 covers column 0 with X = 8 before sprite 5 with X = 8; its pixel is on the line. -/
theorem witness_SpritePriority :
    let s := { State.reset with
      mem := [(0xFE0C, 0x10), (0xFE0D, 0x08), (0xFE14, 0x10), (0xFE15, 0x08)] }
    [3, 5].Pairwise (· < ·) ∧
      (∀ i ∈ [3, 5], (s.mem.get (0xFE00 + 4 * i + 1)).toNat ≤ 0 + 8 ∧ 0 < (s.mem.get (0xFE00 + 4 * i + 1)).toNat) ∧
      (s.mem.get (0xFE00 + 4 * 3 + 0)).toNat ≤ 0 + 16 ∧ 0 + 16 < (s.mem.get (0xFE00 + 4 * 3 + 0)).toNat + 8 ∧
      s.cfg.objFallthrough = false := by decide

theorem witness_JoypadRegister : State.reset.dma.active = false := by decide

theorem witness_SetButton :
    State.reset.dma.active = false ∧ State.reset.inputs = [] ∧
    { State.reset with inputs := [[⟨.a, true⟩], []] }.inputs = [⟨.a, true⟩] :: [[]] := by decide

theorem witness_SerialExchange :
    State.reset.dma.active = false ∧ ((0x81 : Byte).getLsbD 7 = true ∧ (0x81 : Byte).getLsbD 0 = true) ∧
    (0x80 : Byte).getLsbD 0 = false ∧ (0x01 : Byte).getLsbD 7 = false ∧ State.reset.cfg.serialDevice = .absent ∧
    { Params.default with serialDevice := .attached }.serialDevice = .attached := by
  decide

end Sys2Proof.Tests
end

section
/-! PROOFS. The stack primitives (00_scope R14). -/

namespace Sys2Proof.Proofs
open Sys2Proof.Machine

/-- Settles O27: the stores of a push, in order, are `push16_eq`; the pop's word is its two bytes as a number, and a pop
moves `SP` alone. -/
theorem stackPrimitives : Obligations.StackPrimitives := by
  intro v s
  have hpop : (pop16 s).1.toNat = 256 * (memRead s (s.cpu.sp + 1)).toNat + (memRead s s.cpu.sp).toNat := by
    rw [pop16_fst, word_toNat, Nat.mul_comm]
  exact ⟨push16_eq v s, hpop, pop16_snd s⟩

end Sys2Proof.Proofs
end

section
/-! PROOFS. What each shared operation of the meanings leaves of the CPU: one equation per operation, so that the
statements on flags and on registers unfold no meaning (10_state R20-R29). -/

namespace Sys2Proof.Proofs
open Sys2Proof.Machine

/-! ### The row `cb_prefix` (45_system R391) -/

/-- A CB instruction is one of four families (30_encoding R137). -/
theorem decodeCb_cases {P : Instr → Prop} (rot : ∀ op o, P (instrRot op o)) (bit : ∀ b o, P (instrBit b o))
    (res : ∀ b o, P (instrRes b o)) (set : ∀ b o, P (instrSet b o)) (c : Byte) : P (decodeCb c) := by
  unfold decodeCb
  dsimp only
  split
  · exact rot _ _
  · exact bit _ _
  · exact res _ _
  · exact set _ _

/-- It has the effect of the CB row its second byte selects. -/
theorem exec_cb_prefix_eq (c : Byte) (s : State) : exec (.cb_prefix c) s = exec (decodeCb c) s := by
  have hquarter : c.toNat / 64 = 0 ∨ c.toNat / 64 = 1 ∨ c.toNat / 64 = 2 ∨ c.toNat / 64 = 3 := by
    have := c.isLt
    omega
  show cbOpcode c s = _
  unfold cbOpcode decodeCb
  generalize operandOf (c.toNat % 8) = o
  generalize c.toNat / 64 = quarter at hquarter
  rcases hquarter with rfl | rfl | rfl | rfl
  · exact Eq.trans (by cases o <;> rfl) (exec_instrRot (rotOf (c.toNat / 8 % 8)) o s).symm
  · exact Eq.trans (by cases o <;> rfl) (exec_instrBit (bitIndexOf (c.toNat / 8 % 8)) o s).symm
  · exact Eq.trans (by cases o <;> rfl) (exec_instrRes (bitIndexOf (c.toNat / 8 % 8)) o s).symm
  · exact Eq.trans (by cases o <;> rfl) (exec_instrSet (bitIndexOf (c.toNat / 8 % 8)) o s).symm

theorem encode_decodeCb (c : Byte) : encode (decodeCb c) = encode (.cb_prefix c) := by
  revert c
  decide

/-! ### Register and operand writes -/

/-- The register file after a write to an operand: `(HL)` is not in it (43 R304). -/
def setOperand (o : Operand8) (v : Byte) (k : Cpu) : Cpu :=
  match o with
  | .reg r => k.setReg8 r v
  | .atHl => k

@[simp] theorem setOperand_f (o : Operand8) (v : Byte) (k : Cpu) : (setOperand o v k).f = k.f := by
  cases o with
  | reg r => exact setReg8_f r v k
  | atHl => rfl

@[simp] theorem writeOperand_cpu (o : Operand8) (v : Byte) (s : State) :
    (writeOperand o v s).cpu = setOperand o v s.cpu := by
  cases o with
  | reg r => rfl
  | atHl => exact memWrite_cpu _ _ _

@[simp] theorem push16_cpu (v : Word) (s : State) : (push16 v s).cpu = { s.cpu with sp := s.cpu.sp - 2 } := by
  simp [push16_eq]

/-! ### Loads and stores (40_loads) -/

section
variable {n : Nat} {s t : State}

theorem load8_cpu {dst : Operand8} {src : Source8} (h : load8 dst src n s = .next t) :
    t.cpu = setOperand dst (readSource s src) s.cpu := by
  simp [done_inj h]

theorem loadA_cpu {m : Addressing} (h : loadA m n s = .next t) :
    t.cpu = afterAddressing m { s.cpu with a := memRead s (effectiveAddress s m) } := by
  simp [done_inj h]

theorem storeA_cpu {m : Addressing} (h : storeA m n s = .next t) : t.cpu = afterAddressing m s.cpu := by
  simp [done_inj h]

theorem loadPair_cpu {p : Pair} {nn : Word} (h : loadPair p nn n s = .next t) : t.cpu = s.cpu.setPair p nn := by
  simp [done_inj h]

theorem storeSp_cpu {nn : Word} (h : storeSp nn n s = .next t) : t.cpu = s.cpu := by
  simp [done_inj h, memWrite16]

theorem loadSpHl_cpu (h : loadSpHl n s = .next t) : t.cpu = { s.cpu with sp := s.cpu.hl } := by
  simp [done_inj h]

theorem pushPair_cpu {p : StackPair} (h : pushPair p n s = .next t) : t.cpu = { s.cpu with sp := s.cpu.sp - 2 } := by
  simp [done_inj h]

theorem popPair_cpu {p : StackPair} (h : popPair p n s = .next t) :
    t.cpu = Cpu.setStackPair p (pop16 s).1 { s.cpu with sp := s.cpu.sp + 2 } := by
  have hpop : popPair p n s = done n (onCpu (Cpu.setStackPair p (pop16 s).1) (pop16 s).2) := rfl
  simp [done_inj (hpop ▸ h), pop16_snd]

/-! ### Arithmetic, rotates and bits (41_alu8, 42_alu16, 43) -/

theorem alu_cpu {op : AluOp} {src : Source8} (h : alu op src n s = .next t) :
    t.cpu =
      { s.cpu with
        a := if aluWritesA op then (aluResult op s.cpu.a (readSource s src) s.cpu.f.c).1 else s.cpu.a
        f := (aluResult op s.cpu.a (readSource s src) s.cpu.f.c).2 } := by
  simp [done_inj h]

theorem inc8_cpu {o : Operand8} (h : inc8 o n s = .next t) :
    t.cpu =
      { setOperand o (incResult (readOperand s o) s.cpu.f).1 s.cpu with
        f := (incResult (readOperand s o) s.cpu.f).2 } := by
  simp [done_inj h]

theorem dec8_cpu {o : Operand8} (h : dec8 o n s = .next t) :
    t.cpu =
      { setOperand o (decResult (readOperand s o) s.cpu.f).1 s.cpu with
        f := (decResult (readOperand s o) s.cpu.f).2 } := by
  simp [done_inj h]

theorem accumulator_cpu {g : Byte → Flags → Byte × Flags} (h : accumulator g n s = .next t) :
    t.cpu = { s.cpu with a := (g s.cpu.a s.cpu.f).1, f := (g s.cpu.a s.cpu.f).2 } := by
  simp [done_inj h]

theorem addToPair_cpu {p : Pair} {delta : Word} (h : addToPair p delta n s = .next t) :
    t.cpu = s.cpu.setPair p (s.cpu.pair p + delta) := by
  simp [done_inj h]

theorem addHl_cpu {p : Pair} (h : addHl p n s = .next t) :
    t.cpu =
      { s.cpu.setHl (addHlResult s.cpu.hl (s.cpu.pair p) s.cpu.f).1 with
        f := (addHlResult s.cpu.hl (s.cpu.pair p) s.cpu.f).2 } := by
  simp [done_inj h]

theorem addSp_cpu {d : Byte} (h : addSp d n s = .next t) :
    t.cpu = { s.cpu with sp := (spOffsetResult s.cpu.sp d).1, f := (spOffsetResult s.cpu.sp d).2 } := by
  simp [done_inj h]

theorem loadHlSp_cpu {d : Byte} (h : loadHlSp d n s = .next t) :
    t.cpu = { s.cpu.setHl (spOffsetResult s.cpu.sp d).1 with f := (spOffsetResult s.cpu.sp d).2 } := by
  simp [done_inj h]

theorem rotateA_cpu {op : RotOp} (h : rotateA op n s = .next t) :
    t.cpu =
      { s.cpu with
        a := (rotateResult op s.cpu.a s.cpu.f.c).1
        f := accRotateFlags (rotateResult op s.cpu.a s.cpu.f.c).2 } := by
  simp [done_inj h]

theorem rotate_cpu {op : RotOp} {o : Operand8} (h : rotate op o n s = .next t) :
    t.cpu =
      { setOperand o (rotateResult op (readOperand s o) s.cpu.f.c).1 s.cpu with
        f := rotateFlags (rotateResult op (readOperand s o) s.cpu.f.c).1
          (rotateResult op (readOperand s o) s.cpu.f.c).2 } := by
  simp [done_inj h]

theorem testBit_cpu {b : BitIndex} {o : Operand8} (h : testBit b o n s = .next t) :
    t.cpu = { s.cpu with f := bitFlags ((readOperand s o).getLsbD b.toNat) s.cpu.f } := by
  simp [done_inj h]

theorem resetBit_cpu {b : BitIndex} {o : Operand8} (h : resetBit b o n s = .next t) :
    t.cpu = setOperand o (readOperand s o &&& ~~~bitMask b) s.cpu := by
  simp [done_inj h]

theorem setBit_cpu {b : BitIndex} {o : Operand8} (h : setBit b o n s = .next t) :
    t.cpu = setOperand o (readOperand s o ||| bitMask b) s.cpu := by
  simp [done_inj h]

/-! ### Jumps, calls and returns (44_control), taken or not -/

theorem done_cpu (h : done n s = .next t) : t.cpu = s.cpu := by
  rw [done_inj h]

theorem jump_cpu {target : Word} (h : jump target n s = .next t) : t.cpu = { s.cpu with pc := target } := by
  simp [done_inj h]

theorem jumpIf_cpu {cc : Cond} {target : Word} {n' : Nat} (h : jumpIf cc target n n' s = .next t) :
    t.cpu = { s.cpu with pc := t.cpu.pc } := by
  unfold jumpIf at h
  split at h
  · rw [jump_cpu h]
  · rw [done_cpu h]

theorem call_cpu {target : Word} (h : call target n s = .next t) :
    t.cpu = { s.cpu with sp := s.cpu.sp - 2, pc := target } := by
  rw [jump_cpu h, push16_cpu]

theorem callIf_cpu {cc : Cond} {target : Word} {n' : Nat} (h : callIf cc target n n' s = .next t) :
    t.cpu = { s.cpu with sp := t.cpu.sp, pc := t.cpu.pc } := by
  unfold callIf at h
  split at h
  · rw [call_cpu h]
  · rw [done_cpu h]

theorem ret_cpu (h : ret n s = .next t) : t.cpu = { s.cpu with sp := s.cpu.sp + 2, pc := (pop16 s).1 } := by
  simp [done_inj h, returnTo_eq, pop16_fst]

theorem retIf_cpu {cc : Cond} {n' : Nat} (h : retIf cc n n' s = .next t) :
    t.cpu = { s.cpu with sp := t.cpu.sp, pc := t.cpu.pc } := by
  unfold retIf at h
  split at h
  · rw [ret_cpu h]
  · rw [done_cpu h]

theorem reti_cpu (h : reti n s = .next t) :
    t.cpu = { s.cpu with sp := s.cpu.sp + 2, pc := (pop16 s).1, ime := true } := by
  simp [done_inj h, returnFromInterrupt, returnTo_eq, pop16_fst]

/-! ### System instructions (45_system) -/

theorem disableInterrupts_cpu (h : disableInterrupts n s = .next t) :
    t.cpu = { s.cpu with ime := false, eiDelay := 0 } := by
  simp [done_inj h]

theorem enableInterrupts_cpu (h : enableInterrupts n s = .next t) : t.cpu = { s.cpu with eiDelay := 2 } := by
  simp [done_inj h]

theorem halt_cpu (h : halt n s = .next t) :
    t.cpu = { s.cpu with mode := t.cpu.mode, haltBug := t.cpu.haltBug } := by
  unfold halt at h
  split at h
  · simp [done_inj h]
  · split at h <;> simp [done_inj h]

/-- Only a refused `STOP` moves the pc, back over its second byte (45_system R394; log entry 10). -/
theorem stop_cpu (h : stop n s = .next t) :
    t.cpu =
      match s.cfg.stopMode with
      | .waitButton => { s.cpu with mode := .stopped }
      | .refuse => { s.cpu with mode := .locked, pc := s.cpu.pc - 1 } := by
  unfold stop at h
  split at h <;> simp_all [done_inj h]

theorem undefinedOpcode_cpu {op : Byte} (h : undefinedOpcode op n s = .next t) :
    t.cpu = { s.cpu with mode := t.cpu.mode } := by
  unfold undefinedOpcode at h
  split at h <;> simp [done_inj h]

end

end Sys2Proof.Proofs
end

section
/-! PROOFS. The flags an instruction writes (10_state R25, the opcode table's column `flags_ZNHC`). -/

namespace Sys2Proof.Proofs
open Sys2Proof.Machine

/-- The four letters of a row, each said of its flag. -/
def RowHolds (r : FlagRow) (f g : Flags) : Prop :=
  r.z.Holds f.z g.z ∧ r.n.Holds f.n g.n ∧ r.h.Holds f.h g.h ∧ r.c.Holds f.c g.c

/-- What `Obligations.FlagsWrittenAsTheTableSays` says of one instruction. -/
def FlagsAsRow (i : Instr) : Prop :=
  ∀ s t : State, exec i s = .next t → RowHolds (flagRow (encode i)) s.cpu.f t.cpu.f

/-! ### The flag computations do what their rows say (41_alu8, 42_alu16, 43) -/

theorem rowHolds_none (f : Flags) : RowHolds .none f f := ⟨rfl, rfl, rfl, rfl⟩

theorem rowHolds_alu (op : AluOp) (x y : Byte) (c : Bool) (f : Flags) :
    RowHolds (.alu op.code) f (aluResult op x y c).2 := by
  cases op <;> exact ⟨trivial, rfl, by constructor, by constructor⟩

theorem rowHolds_inc (v : Byte) (f : Flags) :
    RowHolds ⟨.result, .zero, .result, .keep⟩ f (incResult v f).2 := ⟨trivial, rfl, trivial, rfl⟩

theorem rowHolds_dec (v : Byte) (f : Flags) :
    RowHolds ⟨.result, .one, .result, .keep⟩ f (decResult v f).2 := ⟨trivial, rfl, trivial, rfl⟩

theorem rowHolds_daa (a : Byte) (f : Flags) :
    RowHolds ⟨.result, .keep, .zero, .result⟩ f (daaResult a f).2 := by
  unfold daaResult
  split <;> exact ⟨trivial, rfl, rfl, trivial⟩

theorem rowHolds_addHl (x y : Word) (f : Flags) :
    RowHolds ⟨.keep, .zero, .result, .result⟩ f (addHlResult x y f).2 := ⟨rfl, rfl, trivial, trivial⟩

theorem rowHolds_spOffset (sp : Word) (d : Byte) (f : Flags) :
    RowHolds ⟨.zero, .zero, .result, .result⟩ f (spOffsetResult sp d).2 := ⟨rfl, rfl, trivial, trivial⟩

theorem rowHolds_accRotate (out : Bool) (f : Flags) :
    RowHolds ⟨.zero, .zero, .zero, .result⟩ f (accRotateFlags out) := ⟨rfl, rfl, rfl, trivial⟩

/-- `SWAP` moves no bit out and clears C. -/
theorem rowHolds_rotate (op : RotOp) (v : Byte) (c : Bool) (f : Flags) :
    RowHolds ⟨.result, .zero, .zero, if op = .swap then .zero else .result⟩ f
      (rotateFlags (rotateResult op v c).1 (rotateResult op v c).2) := by
  refine ⟨trivial, rfl, rfl, ?_⟩
  cases op <;> constructor

theorem rowHolds_bit (b : Bool) (f : Flags) :
    RowHolds ⟨.result, .zero, .one, .keep⟩ f (bitFlags b f) := ⟨trivial, rfl, rfl, rfl⟩

theorem rowHolds_result (f g : Flags) : RowHolds ⟨.result, .result, .result, .result⟩ f g :=
  ⟨trivial, trivial, trivial, trivial⟩

/-! ### The families' rows -/

/-- An instruction with no letter in its row that leaves the flags. -/
theorem flagsAsRow_of_kept {i : Instr} (hrow : flagRow (encode i) = .none)
    (hkept : ∀ s t : State, exec i s = .next t → t.cpu.f = s.cpu.f) : FlagsAsRow i := by
  intro s t h
  rw [hrow, hkept s t h]
  exact rowHolds_none _

/-- An instruction with a row `r`, which holds of the flags it leaves. -/
theorem flagsAsRow_of_row {i : Instr} (r : FlagRow) (hrow : flagRow (encode i) = r)
    (hholds : ∀ s t : State, exec i s = .next t → RowHolds r s.cpu.f t.cpu.f) : FlagsAsRow i := by
  intro s t h
  rw [hrow]
  exact hholds s t h

theorem flagRow_aluBytes (op : AluOp) (src : Source8) : flagRow (aluBytes op src) = .alu op.code := by
  cases src with
  | imm n => cases op <;> rfl
  | op o =>
    cases o with
    | reg r => cases op <;> cases r <;> rfl
    | atHl => cases op <;> rfl

theorem flagsAsRow_alu (op : AluOp) (src : Source8) : FlagsAsRow (aluInstr op src) := by
  refine flagsAsRow_of_row (.alu op.code) ?_ fun s t h => ?_
  · rw [encode_aluInstr, flagRow_aluBytes]
  · rw [exec_aluInstr] at h
    rw [alu_cpu h]
    exact rowHolds_alu _ _ _ _ _

theorem flagsAsRow_inc (o : Operand8) : FlagsAsRow (instrInc o) := by
  refine flagsAsRow_of_row ⟨.result, .zero, .result, .keep⟩ ?_ fun s t h => ?_
  · cases o with
    | reg r => cases r <;> rfl
    | atHl => rfl
  · rw [exec_instrInc] at h
    rw [inc8_cpu h]
    exact rowHolds_inc _ _

theorem flagsAsRow_dec (o : Operand8) : FlagsAsRow (instrDec o) := by
  refine flagsAsRow_of_row ⟨.result, .one, .result, .keep⟩ ?_ fun s t h => ?_
  · cases o with
    | reg r => cases r <;> rfl
    | atHl => rfl
  · rw [exec_instrDec] at h
    rw [dec8_cpu h]
    exact rowHolds_dec _ _

theorem flagsAsRow_addHl (p : Pair) : FlagsAsRow (instrAddHl p) := by
  refine flagsAsRow_of_row ⟨.keep, .zero, .result, .result⟩ (by cases p <;> rfl) fun s t h => ?_
  rw [exec_instrAddHl] at h
  rw [addHl_cpu h]
  exact rowHolds_addHl _ _ _

theorem flagsAsRow_rotateA {i : Instr} {op : RotOp}
    (hrow : flagRow (encode i) = ⟨.zero, .zero, .zero, .result⟩) (hexec : ∀ s, exec i s = rotateA op 1 s) :
    FlagsAsRow i := by
  refine flagsAsRow_of_row _ hrow fun s t h => ?_
  rw [hexec] at h
  rw [rotateA_cpu h]
  exact rowHolds_accRotate _ _

theorem flagsAsRow_rot (op : RotOp) (o : Operand8) : FlagsAsRow (instrRot op o) := by
  refine flagsAsRow_of_row ⟨.result, .zero, .zero, if op = .swap then .zero else .result⟩ ?_ fun s t h => ?_
  · cases o with
    | reg r => cases op <;> cases r <;> rfl
    | atHl => cases op <;> rfl
  · rw [exec_instrRot] at h
    rw [rotate_cpu h]
    exact rowHolds_rotate _ _ _ _

theorem flagsAsRow_bit (b : BitIndex) (o : Operand8) : FlagsAsRow (instrBit b o) := by
  refine flagsAsRow_of_row ⟨.result, .zero, .one, .keep⟩ ?_ fun s t h => ?_
  · cases o with
    | reg r => cases b <;> cases r <;> rfl
    | atHl => cases b <;> rfl
  · rw [exec_instrBit] at h
    rw [testBit_cpu h]
    exact rowHolds_bit _ _

theorem flagsAsRow_res (b : BitIndex) (o : Operand8) : FlagsAsRow (instrRes b o) := by
  refine flagsAsRow_of_kept ?_ fun s t h => ?_
  · cases o with
    | reg r => cases b <;> cases r <;> rfl
    | atHl => cases b <;> rfl
  · rw [exec_instrRes] at h
    rw [resetBit_cpu h, setOperand_f]

theorem flagsAsRow_set (b : BitIndex) (o : Operand8) : FlagsAsRow (instrSet b o) := by
  refine flagsAsRow_of_kept ?_ fun s t h => ?_
  · cases o with
    | reg r => cases b <;> cases r <;> rfl
    | atHl => cases b <;> rfl
  · rw [exec_instrSet] at h
    rw [setBit_cpu h, setOperand_f]

theorem flagsAsRow_cbPrefix (c : Byte) : FlagsAsRow (.cb_prefix c) := by
  have hcb : FlagsAsRow (decodeCb c) :=
    decodeCb_cases (P := FlagsAsRow) flagsAsRow_rot flagsAsRow_bit flagsAsRow_res flagsAsRow_set c
  unfold FlagsAsRow at hcb ⊢
  simpa only [encode_decodeCb, ← exec_cb_prefix_eq] using hcb

/-- `POP AF` alone of the pops writes flags: all four, from the byte popped (40_loads R194). -/
theorem flagsAsRow_pop (p : StackPair) : FlagsAsRow (instrPop p) := by
  cases p
  case af => exact flagsAsRow_of_row ⟨.result, .result, .result, .result⟩ rfl fun _ _ _ => rowHolds_result _ _
  all_goals exact flagsAsRow_of_kept rfl fun s t h => by rw [popPair_cpu ((exec_instrPop _ s).symm.trans h)]; rfl

theorem flagsAsRow_ldReg (r : Reg8) (o : Operand8) : FlagsAsRow (instrLd (.reg r) o) := by
  refine flagsAsRow_of_kept ?_ fun s t h => ?_
  · cases o with
    | reg q => cases r <;> cases q <;> rfl
    | atHl => cases r <;> rfl
  · rw [exec_instrLd_reg] at h
    rw [load8_cpu h, setOperand_f]

theorem flagsAsRow_ldImm (o : Operand8) (n : Byte) : FlagsAsRow (instrLdImm o n) := by
  refine flagsAsRow_of_kept ?_ fun s t h => ?_
  · cases o with
    | reg r => cases r <;> rfl
    | atHl => rfl
  · rw [exec_instrLdImm] at h
    rw [load8_cpu h, setOperand_f]

/-- Settles O14: by family, the row of the family's bytes and the flags its shared operation leaves. -/
theorem flagsWrittenAsTheTableSays : Obligations.FlagsWrittenAsTheTableSays := by
  unfold Obligations.FlagsWrittenAsTheTableSays
  intro i
  show FlagsAsRow i
  cases i using Instr.family_cases with
  | ldReg r o => exact flagsAsRow_ldReg r o
  | ldAtHl r =>
    refine flagsAsRow_of_kept (by cases r <;> rfl) fun s t h => ?_
    rw [exec_instrLd_atHl] at h
    rw [load8_cpu h, setOperand_f]
  | ldImm o n => exact flagsAsRow_ldImm o n
  | loadA m =>
    refine flagsAsRow_of_kept (by cases m <;> rfl) fun s t h => ?_
    rw [exec_loadAInstr] at h
    rw [loadA_cpu h, afterAddressing_f]
  | storeA m =>
    refine flagsAsRow_of_kept (by cases m <;> rfl) fun s t h => ?_
    rw [exec_storeAInstr] at h
    rw [storeA_cpu h, afterAddressing_f]
  | ldPair p nn =>
    refine flagsAsRow_of_kept (by cases p <;> rfl) fun s t h => ?_
    rw [exec_instrLdPair] at h
    rw [loadPair_cpu h, setPair_f]
  | storeSp nn => exact flagsAsRow_of_kept rfl fun s t h => by rw [storeSp_cpu h]
  | ldSpHl => exact flagsAsRow_of_kept rfl fun s t h => by rw [loadSpHl_cpu h]
  | push p =>
    refine flagsAsRow_of_kept (by cases p <;> rfl) fun s t h => ?_
    rw [exec_instrPush] at h
    rw [pushPair_cpu h]
  | pop p => exact flagsAsRow_pop p
  | alu op src => exact flagsAsRow_alu op src
  | inc o => exact flagsAsRow_inc o
  | dec o => exact flagsAsRow_dec o
  | daa => exact flagsAsRow_of_row _ rfl fun s t h => by rw [accumulator_cpu h]; exact rowHolds_daa _ _
  | cpl =>
    refine flagsAsRow_of_row _ rfl fun s t h => ?_
    rw [accumulator_cpu (g := fun a f => (~~~a, cplFlags f)) h]
    exact ⟨rfl, rfl, rfl, rfl⟩
  | scf =>
    refine flagsAsRow_of_row _ rfl fun s t h => ?_
    rw [accumulator_cpu (g := fun a f => (a, scfFlags f)) h]
    exact ⟨rfl, rfl, rfl, rfl⟩
  | ccf =>
    refine flagsAsRow_of_row _ rfl fun s t h => ?_
    rw [accumulator_cpu (g := fun a f => (a, ccfFlags f)) h]
    exact ⟨rfl, rfl, rfl, trivial⟩
  | incPair p =>
    refine flagsAsRow_of_kept (by cases p <;> rfl) fun s t h => ?_
    rw [exec_instrIncPair] at h
    rw [addToPair_cpu h, setPair_f]
  | decPair p =>
    refine flagsAsRow_of_kept (by cases p <;> rfl) fun s t h => ?_
    rw [exec_instrDecPair] at h
    rw [addToPair_cpu h, setPair_f]
  | addHl p => exact flagsAsRow_addHl p
  | addSp e => exact flagsAsRow_of_row _ rfl fun s t h => by rw [addSp_cpu h]; exact rowHolds_spOffset _ _ _
  | ldHlSp e => exact flagsAsRow_of_row _ rfl fun s t h => by rw [loadHlSp_cpu h]; exact rowHolds_spOffset _ _ _
  | rlca => exact flagsAsRow_rotateA rfl fun _ => rfl
  | rrca => exact flagsAsRow_rotateA rfl fun _ => rfl
  | rla => exact flagsAsRow_rotateA rfl fun _ => rfl
  | rra => exact flagsAsRow_rotateA rfl fun _ => rfl
  | rot op o => exact flagsAsRow_rot op o
  | bit b o => exact flagsAsRow_bit b o
  | res b o => exact flagsAsRow_res b o
  | set b o => exact flagsAsRow_set b o
  | jp nn => exact flagsAsRow_of_kept rfl fun s t h => by rw [jump_cpu h]
  | jpCond cc nn =>
    refine flagsAsRow_of_kept (by cases cc <;> rfl) fun s t h => ?_
    rw [exec_instrJpCond] at h
    rw [jumpIf_cpu h]
  | jpHl => exact flagsAsRow_of_kept rfl fun s t h => by rw [jump_cpu h]
  | jr e => exact flagsAsRow_of_kept rfl fun s t h => by rw [jump_cpu h]
  | jrCond cc e =>
    refine flagsAsRow_of_kept (by cases cc <;> rfl) fun s t h => ?_
    rw [exec_instrJrCond] at h
    rw [jumpIf_cpu h]
  | call nn => exact flagsAsRow_of_kept rfl fun s t h => by rw [call_cpu h]
  | callCond cc nn =>
    refine flagsAsRow_of_kept (by cases cc <;> rfl) fun s t h => ?_
    rw [exec_instrCallCond] at h
    rw [callIf_cpu h]
  | ret => exact flagsAsRow_of_kept rfl fun s t h => by rw [ret_cpu h]
  | retCond cc =>
    refine flagsAsRow_of_kept (by cases cc <;> rfl) fun s t h => ?_
    rw [exec_instrRetCond] at h
    rw [retIf_cpu h]
  | reti => exact flagsAsRow_of_kept rfl fun s t h => by rw [reti_cpu h]
  | rst v =>
    refine flagsAsRow_of_kept (by cases v <;> rfl) fun s t h => ?_
    rw [exec_instrRst] at h
    rw [call_cpu h]
  | nop => exact flagsAsRow_of_kept rfl fun s t h => by rw [done_cpu h]
  | di => exact flagsAsRow_of_kept rfl fun s t h => by rw [disableInterrupts_cpu h]
  | ei => exact flagsAsRow_of_kept rfl fun s t h => by rw [enableInterrupts_cpu h]
  | halt => exact flagsAsRow_of_kept rfl fun s t h => by rw [halt_cpu h]
  | stop n =>
    refine flagsAsRow_of_kept rfl fun s t h => ?_
    rw [stop_cpu h]
    split <;> rfl
  | undefined p hp =>
    refine flagsAsRow_of_kept ?_ fun s t h => ?_
    · rw [encode_undefined hp]
      revert p
      decide
    · rw [exec_undefined hp] at h
      rw [undefinedOpcode_cpu h]
  | cbPrefix c => exact flagsAsRow_cbPrefix c

end Sys2Proof.Proofs
end

section
/-! PROOFS. The registers an instruction writes (10_state R20, R23, R24): each operation keeps to a footprint, and each
family's row names its footprint. -/

namespace Sys2Proof.Proofs
open Sys2Proof.Machine

/-- The registers an operation may write: 8-bit registers, `SP`, the pc. -/
structure Footprint where
  regs : List Reg8
  sp : Bool
  pc : Bool

namespace Footprint

/-- Nothing outside the footprint differs. -/
structure Holds (w : Footprint) (k k' : Cpu) : Prop where
  reg8 : ∀ r, r ∉ w.regs → k'.reg8 r = k.reg8 r
  sp : w.sp = false → k'.sp = k.sp
  pc : w.pc = false → k'.pc = k.pc

/-- Whether the row of an instruction's bytes names all of the footprint. -/
def inRow (w : Footprint) (bytes : List Byte) : Bool :=
  w.regs.all (writesReg8 bytes) && (!w.sp || decide (bytes.headD 0 ∈ spWriters)) &&
    (!w.pc || decide (bytes.headD 0 ∈ pcWriters))

theorem inRow_eq_true {w : Footprint} {bytes : List Byte} (h : w.inRow bytes = true) :
    (∀ r ∈ w.regs, writesReg8 bytes r = true) ∧ (w.sp = true → bytes.headD 0 ∈ spWriters) ∧
      (w.pc = true → bytes.headD 0 ∈ pcWriters) := by
  unfold inRow at h
  simp only [Bool.and_eq_true, List.all_eq_true, Bool.or_eq_true, Bool.not_eq_true', decide_eq_true_eq] at h
  obtain ⟨⟨hregs, hsp⟩, hpc⟩ := h
  exact ⟨hregs, fun hw => hsp.resolve_left (by simp [hw]), fun hw => hpc.resolve_left (by simp [hw])⟩

/-! ### The footprint of each operation on the register file -/

theorem holds_self (k : Cpu) : Holds ⟨[], false, false⟩ k k := ⟨fun _ _ => rfl, fun _ => rfl, fun _ => rfl⟩

/-- Neither the flags nor the control state are in a footprint. -/
theorem Holds.control {w : Footprint} {k k' : Cpu} (h : w.Holds k k') (f : Flags) (m : CpuMode) (ime : Bool)
    (ei : Fin 3) (hb : Bool) :
    w.Holds k { k' with f := f, mode := m, ime := ime, eiDelay := ei, haltBug := hb } :=
  ⟨fun r hr => Eq.trans (by cases r <;> rfl) (h.reg8 r hr), h.sp, h.pc⟩

theorem holds_a (k : Cpu) (v : Byte) : Holds ⟨[.a], false, false⟩ k { k with a := v } :=
  ⟨fun r hr => by cases r <;> simp_all [Cpu.reg8], fun _ => rfl, fun _ => rfl⟩

theorem holds_hl (k : Cpu) (v : Word) : Holds ⟨[.h, .l], false, false⟩ k (k.setHl v) :=
  ⟨fun r hr => by cases r <;> simp_all [Cpu.reg8], fun _ => rfl, fun _ => rfl⟩

theorem holds_sp (k : Cpu) (v : Word) : Holds ⟨[], true, false⟩ k { k with sp := v } :=
  ⟨fun r _ => by cases r <;> rfl, nofun, fun _ => rfl⟩

theorem holds_pc (k : Cpu) (v : Word) : Holds ⟨[], false, true⟩ k { k with pc := v } :=
  ⟨fun r _ => by cases r <;> rfl, fun _ => rfl, nofun⟩

theorem holds_sp_pc (k : Cpu) (v w : Word) : Holds ⟨[], true, true⟩ k { k with sp := v, pc := w } :=
  ⟨fun r _ => by cases r <;> rfl, nofun, nofun⟩

/-- The operand's register, if it is one. -/
def operand : Operand8 → Footprint
  | .reg r => ⟨[r], false, false⟩
  | .atHl => ⟨[], false, false⟩

theorem holds_operand (o : Operand8) (v : Byte) (k : Cpu) : (operand o).Holds k (setOperand o v k) := by
  cases o with
  | atHl => exact holds_self k
  | reg r =>
    exact ⟨fun q hq => by simp_all [operand, setOperand], fun _ => setReg8_sp r v k, fun _ => setReg8_pc r v k⟩

/-- The halves of a pair, or `SP`. -/
def pair : Pair → Footprint
  | .bc => ⟨[.b, .c], false, false⟩
  | .de => ⟨[.d, .e], false, false⟩
  | .hl => ⟨[.h, .l], false, false⟩
  | .sp => ⟨[], true, false⟩

theorem holds_pair (p : Pair) (v : Word) (k : Cpu) : (pair p).Holds k (k.setPair p v) := by
  refine ⟨fun r hr => ?_, fun hw => ?_, fun _ => setPair_pc _ _ _⟩
  · cases p <;> cases r <;> simp_all [pair, Cpu.setPair, Cpu.reg8]
  · cases p <;> simp_all [pair, Cpu.setPair]

/-- What a pop writes: `SP`, and the halves of its pair, of `AF` the `A`. -/
def popped : StackPair → Footprint
  | .bc => ⟨[.b, .c], true, false⟩
  | .de => ⟨[.d, .e], true, false⟩
  | .hl => ⟨[.h, .l], true, false⟩
  | .af => ⟨[.a], true, false⟩

theorem holds_popped (p : StackPair) (v w : Word) (k : Cpu) :
    (popped p).Holds k (Cpu.setStackPair p v { k with sp := w }) := by
  refine ⟨fun r hr => ?_, fun hw => ?_, fun _ => setStackPair_pc _ _ _⟩
  · cases p <;> cases r <;> simp_all [popped, Cpu.setStackPair, Cpu.reg8]
  · cases p <;> cases hw

/-- What an addressing mode writes: `HL` where it moves it (40_loads R169). -/
def addressing : Addressing → Footprint
  | .hlInc => ⟨[.h, .l], false, false⟩
  | .hlDec => ⟨[.h, .l], false, false⟩
  | _ => ⟨[], false, false⟩

theorem holds_addressing (m : Addressing) (k : Cpu) : (addressing m).Holds k (afterAddressing m k) := by
  cases m
  case hlInc => exact holds_hl k _
  case hlDec => exact holds_hl k _
  all_goals exact holds_self k

/-- The footprint with `A` besides. -/
def withA (w : Footprint) : Footprint := { w with regs := .a :: w.regs }

theorem Holds.withA {w : Footprint} {k k' : Cpu} {v : Byte} (h : w.Holds { k with a := v } k') :
    w.withA.Holds k k' := by
  refine ⟨fun r hr => ?_, h.sp, h.pc⟩
  obtain ⟨hra, hrw⟩ := not_or.mp (mt List.mem_cons.mpr hr)
  exact (h.reg8 r hrw).trans ((holds_a k v).reg8 r (by simpa using hra))

/-- `A` for every ALU operation but `CP` (41_alu8 R235). -/
def aluA (op : AluOp) : Footprint := ⟨if aluWritesA op then [.a] else [], false, false⟩

theorem holds_aluA (op : AluOp) (v : Byte) (k : Cpu) :
    (aluA op).Holds k { k with a := if aluWritesA op then v else k.a } := by
  unfold aluA
  cases aluWritesA op
  · exact holds_self k
  · exact holds_a k v

end Footprint

open Footprint

/-! ### The families' rows -/

/-- What `Obligations.RegistersWrittenAsTheTableSays` says of one instruction. -/
def RegistersAsRow (i : Instr) : Prop :=
  ∀ s t : State, exec i s = .next t →
    (∀ r : Reg8, writesReg8 (encode i) r = false → t.cpu.reg8 r = s.cpu.reg8 r) ∧
    ((encode i).headD 0 ∉ spWriters → t.cpu.sp = s.cpu.sp) ∧
    ((encode i).headD 0 ∉ pcWriters → (s.cfg.stopMode = .waitButton ∨ (encode i).headD 0 ≠ 0x10) →
      t.cpu.pc = s.cpu.pc)

/-- An instruction that keeps to a footprint its row names. -/
theorem registersAsRow_of_footprint {i : Instr} (w : Footprint) (hrow : w.inRow (encode i) = true)
    (hw : ∀ s t : State, exec i s = .next t → w.Holds s.cpu t.cpu) : RegistersAsRow i := by
  intro s t h
  obtain ⟨hreg8, hsp, hpc⟩ := hw s t h
  obtain ⟨rowReg8, rowSp, rowPc⟩ := inRow_eq_true hrow
  refine ⟨fun r hr => hreg8 r fun hmem => ?_, fun hns => hsp ?_, fun hnp _ => hpc ?_⟩
  · exact absurd (rowReg8 r hmem) (by simp [hr])
  · exact Bool.eq_false_iff.mpr fun h => hns (rowSp h)
  · exact Bool.eq_false_iff.mpr fun h => hnp (rowPc h)

/-- An instruction that leaves every register, whatever it does to flags and control state. -/
theorem registersAsRow_of_kept {i : Instr}
    (hkept : ∀ s t : State, exec i s = .next t → Holds ⟨[], false, false⟩ s.cpu t.cpu) : RegistersAsRow i :=
  registersAsRow_of_footprint _ rfl hkept

theorem registersAsRow_ldReg (r : Reg8) (o : Operand8) : RegistersAsRow (instrLd (.reg r) o) := by
  refine registersAsRow_of_footprint (operand (.reg r)) ?_ fun s t h => ?_
  · cases o with
    | reg q => cases r <;> cases q <;> rfl
    | atHl => cases r <;> rfl
  · rw [exec_instrLd_reg] at h
    rw [load8_cpu h]
    exact holds_operand _ _ _

theorem registersAsRow_ldImm (o : Operand8) (n : Byte) : RegistersAsRow (instrLdImm o n) := by
  refine registersAsRow_of_footprint (operand o) ?_ fun s t h => ?_
  · cases o with
    | reg r => cases r <;> rfl
    | atHl => rfl
  · rw [exec_instrLdImm] at h
    rw [load8_cpu h]
    exact holds_operand _ _ _

theorem registersAsRow_alu (op : AluOp) (src : Source8) : RegistersAsRow (aluInstr op src) := by
  refine registersAsRow_of_footprint (aluA op) ?_ fun s t h => ?_
  · rw [encode_aluInstr]
    cases src with
    | imm n => cases op <;> rfl
    | op o =>
      cases o with
      | reg r => cases op <;> cases r <;> rfl
      | atHl => cases op <;> rfl
  · rw [exec_aluInstr] at h
    rw [alu_cpu h]
    exact (holds_aluA op _ _).control _ _ _ _ _

theorem registersAsRow_inc (o : Operand8) : RegistersAsRow (instrInc o) := by
  refine registersAsRow_of_footprint (operand o) ?_ fun s t h => ?_
  · cases o with
    | reg r => cases r <;> rfl
    | atHl => rfl
  · rw [exec_instrInc] at h
    rw [inc8_cpu h]
    exact (holds_operand _ _ _).control _ _ _ _ _

theorem registersAsRow_dec (o : Operand8) : RegistersAsRow (instrDec o) := by
  refine registersAsRow_of_footprint (operand o) ?_ fun s t h => ?_
  · cases o with
    | reg r => cases r <;> rfl
    | atHl => rfl
  · rw [exec_instrDec] at h
    rw [dec8_cpu h]
    exact (holds_operand _ _ _).control _ _ _ _ _

/-- `DAA`, `CPL`, `SCF`, `CCF`. -/
theorem registersAsRow_accumulator {i : Instr} {g : Byte → Flags → Byte × Flags}
    (hrow : inRow ⟨[.a], false, false⟩ (encode i) = true) (hexec : ∀ s, exec i s = accumulator g 1 s) :
    RegistersAsRow i := by
  refine registersAsRow_of_footprint _ hrow fun s t h => ?_
  rw [hexec] at h
  rw [accumulator_cpu h]
  exact (holds_a _ _).control _ _ _ _ _

theorem registersAsRow_rotateA {i : Instr} {op : RotOp}
    (hrow : inRow ⟨[.a], false, false⟩ (encode i) = true) (hexec : ∀ s, exec i s = rotateA op 1 s) :
    RegistersAsRow i := by
  refine registersAsRow_of_footprint _ hrow fun s t h => ?_
  rw [hexec] at h
  rw [rotateA_cpu h]
  exact (holds_a _ _).control _ _ _ _ _

theorem registersAsRow_rot (op : RotOp) (o : Operand8) : RegistersAsRow (instrRot op o) := by
  refine registersAsRow_of_footprint (operand o) ?_ fun s t h => ?_
  · cases o with
    | reg r => cases op <;> cases r <;> rfl
    | atHl => rfl
  · rw [exec_instrRot] at h
    rw [rotate_cpu h]
    exact (holds_operand _ _ _).control _ _ _ _ _

theorem registersAsRow_bit (b : BitIndex) (o : Operand8) : RegistersAsRow (instrBit b o) := by
  refine registersAsRow_of_kept fun s t h => ?_
  rw [exec_instrBit] at h
  rw [testBit_cpu h]
  exact (holds_self _).control _ _ _ _ _

theorem registersAsRow_res (b : BitIndex) (o : Operand8) : RegistersAsRow (instrRes b o) := by
  refine registersAsRow_of_footprint (operand o) ?_ fun s t h => ?_
  · cases o with
    | reg r => cases b <;> cases r <;> rfl
    | atHl => rfl
  · rw [exec_instrRes] at h
    rw [resetBit_cpu h]
    exact holds_operand _ _ _

theorem registersAsRow_set (b : BitIndex) (o : Operand8) : RegistersAsRow (instrSet b o) := by
  refine registersAsRow_of_footprint (operand o) ?_ fun s t h => ?_
  · cases o with
    | reg r => cases b <;> cases r <;> rfl
    | atHl => rfl
  · rw [exec_instrSet] at h
    rw [setBit_cpu h]
    exact holds_operand _ _ _

theorem registersAsRow_cbPrefix (c : Byte) : RegistersAsRow (.cb_prefix c) := by
  have hcb : RegistersAsRow (decodeCb c) :=
    decodeCb_cases (P := RegistersAsRow) registersAsRow_rot registersAsRow_bit registersAsRow_res registersAsRow_set c
  unfold RegistersAsRow at hcb ⊢
  simpa only [encode_decodeCb, ← exec_cb_prefix_eq] using hcb

/-- A refused `STOP` steps the pc back, and its row is left out there (log entry 10). -/
theorem registersAsRow_stop (n : Byte) : RegistersAsRow (.stop n) := by
  intro s t h
  have hcpu := stop_cpu (n := 1) h
  cases hm : s.cfg.stopMode <;> rw [hm] at hcpu <;> rw [hcpu]
  case waitButton => exact ⟨fun r _ => by cases r <;> rfl, fun _ => rfl, fun _ _ => rfl⟩
  case refuse =>
    exact ⟨fun r _ => by cases r <;> rfl, fun _ => rfl, fun _ hop => hop.elim nofun fun hne => absurd rfl hne⟩

/-- Settles O15: by family, the footprint of its shared operation, which the row of its bytes names. -/
theorem registersWrittenAsTheTableSays : Obligations.RegistersWrittenAsTheTableSays := by
  unfold Obligations.RegistersWrittenAsTheTableSays
  intro i
  show RegistersAsRow i
  cases i using Instr.family_cases with
  | ldReg r o => exact registersAsRow_ldReg r o
  | ldAtHl r =>
    refine registersAsRow_of_kept fun s t h => ?_
    rw [exec_instrLd_atHl] at h
    rw [load8_cpu h]
    exact holds_self _
  | ldImm o n => exact registersAsRow_ldImm o n
  | loadA m =>
    refine registersAsRow_of_footprint (addressing m).withA (by cases m <;> rfl) fun s t h => ?_
    rw [exec_loadAInstr] at h
    rw [loadA_cpu h]
    exact (holds_addressing m _).withA
  | storeA m =>
    refine registersAsRow_of_footprint (addressing m) (by cases m <;> rfl) fun s t h => ?_
    rw [exec_storeAInstr] at h
    rw [storeA_cpu h]
    exact holds_addressing m _
  | ldPair p nn =>
    refine registersAsRow_of_footprint (pair p) (by cases p <;> rfl) fun s t h => ?_
    rw [exec_instrLdPair] at h
    rw [loadPair_cpu h]
    exact holds_pair p _ _
  | storeSp nn => exact registersAsRow_of_kept fun s t h => by rw [storeSp_cpu h]; exact holds_self _
  | ldSpHl => exact registersAsRow_of_footprint _ rfl fun s t h => by rw [loadSpHl_cpu h]; exact holds_sp _ _
  | push p =>
    refine registersAsRow_of_footprint ⟨[], true, false⟩ (by cases p <;> rfl) fun s t h => ?_
    rw [exec_instrPush] at h
    rw [pushPair_cpu h]
    exact holds_sp _ _
  | pop p =>
    refine registersAsRow_of_footprint (popped p) (by cases p <;> rfl) fun s t h => ?_
    rw [exec_instrPop] at h
    rw [popPair_cpu h]
    exact holds_popped p _ _ _
  | alu op src => exact registersAsRow_alu op src
  | inc o => exact registersAsRow_inc o
  | dec o => exact registersAsRow_dec o
  | daa => exact registersAsRow_accumulator rfl fun _ => rfl
  | cpl => exact registersAsRow_accumulator (g := fun a f => (~~~a, cplFlags f)) rfl fun _ => rfl
  | scf =>
    refine registersAsRow_of_kept fun s t h => ?_
    rw [accumulator_cpu (g := fun a f => (a, scfFlags f)) h]
    exact (holds_self _).control _ _ _ _ _
  | ccf =>
    refine registersAsRow_of_kept fun s t h => ?_
    rw [accumulator_cpu (g := fun a f => (a, ccfFlags f)) h]
    exact (holds_self _).control _ _ _ _ _
  | incPair p =>
    refine registersAsRow_of_footprint (pair p) (by cases p <;> rfl) fun s t h => ?_
    rw [exec_instrIncPair] at h
    rw [addToPair_cpu h]
    exact holds_pair p _ _
  | decPair p =>
    refine registersAsRow_of_footprint (pair p) (by cases p <;> rfl) fun s t h => ?_
    rw [exec_instrDecPair] at h
    rw [addToPair_cpu h]
    exact holds_pair p _ _
  | addHl p =>
    refine registersAsRow_of_footprint ⟨[.h, .l], false, false⟩ (by cases p <;> rfl) fun s t h => ?_
    rw [exec_instrAddHl] at h
    rw [addHl_cpu h]
    exact (holds_hl _ _).control _ _ _ _ _
  | addSp e =>
    refine registersAsRow_of_footprint ⟨[], true, false⟩ rfl fun s t h => ?_
    rw [addSp_cpu h]
    exact (holds_sp s.cpu (spOffsetResult s.cpu.sp e).1).control _ _ _ _ _
  | ldHlSp e =>
    refine registersAsRow_of_footprint ⟨[.h, .l], false, false⟩ rfl fun s t h => ?_
    rw [loadHlSp_cpu h]
    exact (holds_hl _ _).control _ _ _ _ _
  | rlca => exact registersAsRow_rotateA rfl fun _ => rfl
  | rrca => exact registersAsRow_rotateA rfl fun _ => rfl
  | rla => exact registersAsRow_rotateA rfl fun _ => rfl
  | rra => exact registersAsRow_rotateA rfl fun _ => rfl
  | rot op o => exact registersAsRow_rot op o
  | bit b o => exact registersAsRow_bit b o
  | res b o => exact registersAsRow_res b o
  | set b o => exact registersAsRow_set b o
  | jp nn => exact registersAsRow_of_footprint _ rfl fun s t h => by rw [jump_cpu h]; exact holds_pc _ _
  | jpCond cc nn =>
    refine registersAsRow_of_footprint ⟨[], false, true⟩ (by cases cc <;> rfl) fun s t h => ?_
    rw [exec_instrJpCond] at h
    rw [jumpIf_cpu h]
    exact holds_pc _ _
  | jpHl => exact registersAsRow_of_footprint _ rfl fun s t h => by rw [jump_cpu h]; exact holds_pc _ _
  | jr e => exact registersAsRow_of_footprint _ rfl fun s t h => by rw [jump_cpu h]; exact holds_pc _ _
  | jrCond cc e =>
    refine registersAsRow_of_footprint ⟨[], false, true⟩ (by cases cc <;> rfl) fun s t h => ?_
    rw [exec_instrJrCond] at h
    rw [jumpIf_cpu h]
    exact holds_pc _ _
  | call nn => exact registersAsRow_of_footprint _ rfl fun s t h => by rw [call_cpu h]; exact holds_sp_pc _ _ _
  | callCond cc nn =>
    refine registersAsRow_of_footprint ⟨[], true, true⟩ (by cases cc <;> rfl) fun s t h => ?_
    rw [exec_instrCallCond] at h
    rw [callIf_cpu h]
    exact holds_sp_pc _ _ _
  | ret => exact registersAsRow_of_footprint _ rfl fun s t h => by rw [ret_cpu h]; exact holds_sp_pc _ _ _
  | retCond cc =>
    refine registersAsRow_of_footprint ⟨[], true, true⟩ (by cases cc <;> rfl) fun s t h => ?_
    rw [exec_instrRetCond] at h
    rw [retIf_cpu h]
    exact holds_sp_pc _ _ _
  | reti =>
    refine registersAsRow_of_footprint ⟨[], true, true⟩ rfl fun s t h => ?_
    rw [reti_cpu h]
    exact (holds_sp_pc s.cpu (s.cpu.sp + 2) (pop16 s).1).control _ _ _ _ _
  | rst v =>
    refine registersAsRow_of_footprint ⟨[], true, true⟩ (by cases v <;> rfl) fun s t h => ?_
    rw [exec_instrRst] at h
    rw [call_cpu h]
    exact holds_sp_pc _ _ _
  | nop => exact registersAsRow_of_kept fun s t h => by rw [done_cpu h]; exact holds_self _
  | di =>
    exact registersAsRow_of_kept fun s t h => by rw [disableInterrupts_cpu h]; exact (holds_self _).control _ _ _ _ _
  | ei =>
    exact registersAsRow_of_kept fun s t h => by rw [enableInterrupts_cpu h]; exact (holds_self _).control _ _ _ _ _
  | halt => exact registersAsRow_of_kept fun s t h => by rw [halt_cpu h]; exact (holds_self _).control _ _ _ _ _
  | stop n => exact registersAsRow_stop n
  | undefined p hp =>
    refine registersAsRow_of_kept fun s t h => ?_
    rw [exec_undefined hp] at h
    rw [undefinedOpcode_cpu h]
    exact (holds_self _).control _ _ _ _ _
  | cbPrefix c => exact registersAsRow_cbPrefix c

end Sys2Proof.Proofs
end

section
/-! PROOFS. The I/O registers and the boot overlay with no transfer running (10_state R32-R50, 20_memory R81-R86). -/

namespace Sys2Proof.Proofs
open Sys2Proof.Machine

/-! ### The decoder's answers (20_memory R81, 10_state R32) -/

theorem regionOf_of_io {a : Word} (hlo : 0xFF00 ≤ a.toNat) (hhi : a.toNat ≤ 0xFF7F) : regionOf a = .io := by
  have hrange := regionOf_range a
  cases hr : regionOf a <;> simp_all <;> omega

theorem regionOf_of_bootPage {a : Word} (h : a.toNat ≤ 0x00FF) : regionOf a = .bootPage := by
  have hrange := regionOf_range a
  cases hr : regionOf a <;> simp_all <;> omega

theorem regionOf_of_cart {a : Word}
    (h : (0x0100 ≤ a.toNat ∧ a.toNat ≤ 0x7FFF) ∨ (0xA000 ≤ a.toNat ∧ a.toNat ≤ 0xBFFF)) :
    regionOf a = .cartRom ∨ regionOf a = .cartRam := by
  have hrange := regionOf_range a
  cases hr : regionOf a <;> simp_all <;> omega

/-- "Addresses not listed ... are unmapped" (10_state R32). -/
theorem ioRegOf_of_unlisted {a : Word}
    (h : a = 0xFF03 ∨ (0xFF08 ≤ a.toNat ∧ a.toNat ≤ 0xFF0E) ∨ (0xFF4C ≤ a.toNat ∧ a.toNat ≤ 0xFF4F) ∨
      (0xFF51 ≤ a.toNat ∧ a.toNat ≤ 0xFF7F)) : ioRegOf a = .unmapped := by
  have hat := ioRegOf_at a
  cases hr : ioRegOf a <;> simp only [hr, IoReg.At] at hat
  case unmapped => rfl
  case audio =>
    obtain ⟨hlo, hhi⟩ := hat
    rcases h with rfl | h
    · exact absurd hlo (by decide)
    · omega
  all_goals
    subst hat
    revert h
    decide

theorem ioWrite_of_ne_dma {a : Word} (h : ioRegOf a ≠ .dma) (v : Byte) (s : State) :
    ioWrite a v s = ioWriteReg v s (ioRegOf a) := by
  unfold ioWrite
  split
  · contradiction
  · rfl

/-! ### Reads and writes with no transfer running -/

section
variable {s : State} (hidle : s.dma.active = false)
include hidle

theorem memRead_of_idle (a : Word) : memRead s a = busReadUngated s a := by
  simp [memRead, dmaGated_of_idle hidle]

theorem memWrite_of_idle (a : Word) (v : Byte) : memWrite a v s = busWrite a v s :=
  memWrite_of_not_discarded (dmaDiscards_of_not_gated (dmaGated_of_idle hidle a)) v

theorem memRead_ioReg {a : Word} (hio : regionOf a = .io) : memRead s a = ioReadReg s a (ioRegOf a) := by
  rw [memRead_of_idle hidle]
  simp only [busReadUngated, hio, ioRead]

theorem memWrite_ioReg {a : Word} (hio : regionOf a = .io) (hdma : ioRegOf a ≠ .dma) (v : Byte) :
    memWrite a v s = ioWriteReg v s (ioRegOf a) := by
  rw [memWrite_of_idle hidle]
  simp only [busWrite, hio]
  exact ioWrite_of_ne_dma hdma v s

theorem ioWriteReg_idle (v : Byte) (r : IoReg) : (ioWriteReg v s r).dma.active = false := by
  cases r
  case p1 => simpa [ioWriteReg, writeP1, joypadEdge] using hidle
  case sc => simp only [ioWriteReg, writeSc]; split <;> exact hidle
  case boot => simp only [ioWriteReg]; split <;> exact hidle
  all_goals exact hidle

/-- A register other than `DMA`, read after a write to it. -/
theorem memRead_memWrite_ioReg {a : Word} {r : IoReg} (hio : regionOf a = .io) (hr : ioRegOf a = r) (hdma : r ≠ .dma)
    (v : Byte) : memRead (memWrite a v s) a = ioReadReg (ioWriteReg v s r) a r := by
  subst hr
  rw [memWrite_ioReg hidle hio hdma, memRead_ioReg (ioWriteReg_idle hidle v _) hio]

/-- A write to `DMA` itself, all 160 bytes at once, leaves its value to be read (10_state R46). -/
theorem memRead_memWrite_dma (hmode : s.cfg.dmaMode = .instant) (v : Byte) :
    memRead (memWrite 0xFF46 v s) 0xFF46 = v := by
  have hdma : ∀ (is : List Nat) (t : State), (is.foldl (dmaCopy (word v 0)) t).dma = t.dma := by
    intro is
    induction is with
    | nil => exact fun _ => rfl
    | cons i is ih => exact fun t => ih _
  have hwrite : memWrite 0xFF46 v s = (List.range 160).foldl (dmaCopy (word v 0)) (ioWriteReg v s .dma) := by
    rw [memWrite_of_idle hidle]
    show writeDma v s = _
    simp only [writeDma, (sameCore_ioWriteReg v s .dma).cfg, hmode]
  have hpage := hdma (List.range 160) (ioWriteReg v s .dma)
  rw [← hwrite] at hpage
  rw [memRead_of_idle (by rw [hpage]; exact hidle)]
  show (memWrite 0xFF46 v s).dma.page = v
  rw [hpage]
  rfl

/-- `IE`, read after a write to it (10_state R50). -/
theorem memRead_memWrite_ie (v : Byte) :
    memRead (memWrite 0xFFFF v s) 0xFFFF = fiveBitRead s.cfg (fiveBitWrite v) := by
  rw [memWrite_of_idle hidle]
  exact memRead_of_idle (s := busWrite 0xFFFF v s) hidle 0xFFFF

end

/-- Settles O23: each address by its region, the latch by its register. -/
theorem bootOverlay : Obligations.BootOverlay := by
  unfold Obligations.BootOverlay
  intro s v hidle
  have hlatch : ∀ w, memWrite 0xFF50 w s = if w = 0 then s else { s with bootDisabled := true } :=
    memWrite_ioReg hidle rfl (by decide)
  refine ⟨fun hv => ?_, ?_, fun a ha => ?_, fun a ha => ?_, fun a => ⟨fun hnil => ?_, rfl⟩⟩
  · rw [hlatch, if_neg hv]
  · rw [hlatch, if_pos rfl]
  · rw [memRead_of_idle hidle, memWrite_of_idle hidle]
    simp +contextual [busReadUngated, busWrite, regionOf_of_bootPage ha]
  · rw [memRead_of_idle hidle, memWrite_of_idle hidle]
    rcases regionOf_of_cart ha with hr | hr <;> simp [busReadUngated, busWrite, hr]
  · simp only [cartRead, hnil]

/-! ### The registers' bits -/

/-- The lines are below bit 4, the selection above it (10_state R33). -/
theorem joypad_read_high (j : Joypad) : j.read &&& 0xF0 = (0b11 : BitVec 2) ++ j.select ++ (0 : BitVec 4) := by
  unfold Joypad.read
  generalize j.lines = lines
  generalize j.select = select
  revert select lines
  decide

theorem writeP1_read (v : Byte) (s : State) : (writeP1 v s).joypad.read &&& 0xF0 = 0xC0 ||| (v &&& 0x30) := by
  have hselect : (writeP1 v s).joypad.select = v.extractLsb' 4 2 := by simp [writeP1, joypadEdge]
  have hstore : ∀ v : Byte, (0b11 : BitVec 2) ++ v.extractLsb' 4 2 ++ (0 : BitVec 4) = 0xC0 ||| (v &&& 0x30) := by
    decide
  rw [joypad_read_high, hselect]
  exact hstore v

theorem writeSc_readSc (v : Byte) (s : State) :
    (writeSc v s).serial.readSc = if v &&& 0x81 = 0x81 then 0x7F else 0x7E ||| (v &&& 0x81) := by
  have hboth : ∀ v : Byte, v &&& 0x81 = 0x81 ↔ (v.getLsbD 7 && v.getLsbD 0) = true := by decide
  have hbits : ∀ v : Byte,
      bitOf (v.getLsbD 7) ++ (0b111111 : BitVec 6) ++ bitOf (v.getLsbD 0) = 0x7E ||| (v &&& 0x81) := by decide
  simp only [hboth, writeSc]
  split
  · exact (by decide : bitOf false ++ (0b111111 : BitVec 6) ++ bitOf true = 0x7F)
  · exact hbits v

theorem writeTac_readTac (v : Byte) (t : Timer) : (t.writeTac v).readTac = 0xF8 ||| (v &&& 0x07) := by
  have htac : (t.writeTac v).tac = v.extractLsb' 0 3 := by
    simp only [Timer.writeTac]
    split <;> rfl
  have hbits : ∀ v : Byte, (0b11111 : BitVec 5) ++ v.extractLsb' 0 3 = 0xF8 ||| (v &&& 0x07) := by decide
  rw [Timer.readTac, htac]
  exact hbits v

theorem fiveBitRead_fiveBitWrite (cfg : Params) (v : Byte) :
    fiveBitRead cfg (fiveBitWrite v) = (if cfg.ifIeUpperRead = .ones then 0xE0 else 0x00) ||| (v &&& 0x1F) := by
  unfold fiveBitRead fiveBitWrite
  cases cfg.ifIeUpperRead <;> revert v <;> decide

theorem writeLcdc_lcdc (v : Byte) (p : Ppu) : (p.writeLcdc v).lcdc = v := by
  simp only [Ppu.writeLcdc]
  split <;> rfl

/-- `STAT` as its upper five bits, bit 7 and the enables, and its lower three, coincidence and mode (10_state R42). -/
theorem readStat_eq (p : Ppu) :
    p.readStat = ((1 : BitVec 1) ++ p.statEnables : BitVec 5) ++ (bitOf p.coincidence ++ p.mode.code : BitVec 3) := by
  unfold Ppu.readStat
  generalize p.statEnables = e
  cases p.coincidence <;> cases p.mode <;> revert e <;> decide

theorem writeStat_readStat (v : Byte) (p : Ppu) :
    (p.writeStat v).readStat = 0x80 ||| (v &&& 0x78) ||| (p.readStat &&& 0x07) := by
  have hsplit : ∀ (hi : BitVec 5) (low : BitVec 3), hi ++ low = (hi ++ (0 : BitVec 3)) ||| low.setWidth 8 := by decide
  have hlow : ∀ (hi : BitVec 5) (low : BitVec 3), (hi ++ low) &&& 0x07 = low.setWidth 8 := by decide
  have hstore : ∀ v : Byte,
      ((1 : BitVec 1) ++ v.extractLsb' 3 4 : BitVec 5) ++ (0 : BitVec 3) = 0x80 ||| (v &&& 0x78) := by decide
  rw [readStat_eq, readStat_eq p, hlow, hsplit, ← hstore]
  rfl

/-- Settles O22: each register by the write and the read of its own field. -/
theorem ioRegistersReadBack : Obligations.IoRegistersReadBack := by
  unfold Obligations.IoRegistersReadBack
  intro s v hidle wr upper
  have hwr : ∀ {a : Word} (r : IoReg), regionOf a = .io → ioRegOf a = r → r ≠ .dma →
      wr a = ioReadReg (ioWriteReg v s r) a r :=
    fun r hio hr hdma => memRead_memWrite_ioReg hidle hio hr hdma v
  refine ⟨?p1, hwr .sb rfl rfl nofun, ?sc, ?div, hwr .tima rfl rfl nofun, hwr .tma rfl rfl nofun,
    ?tac, ?ifReg, ?ie, ?lcdc, ?stat, hwr .scy rfl rfl nofun, hwr .scx rfl rfl nofun, ?ly, hwr .lyc rfl rfl nofun,
    fun hmode => memRead_memWrite_dma hidle hmode v, hwr .bgp rfl rfl nofun, hwr .obp0 rfl rfl nofun,
    hwr .obp1 rfl rfl nofun, hwr .wy rfl rfl nofun, hwr .wx rfl rfl nofun, hwr .boot rfl rfl nofun, ?unmapped⟩
  case p1 => exact (congrArg (· &&& 0xF0) (hwr .p1 rfl rfl nofun)).trans (writeP1_read v s)
  case sc => exact (hwr .sc rfl rfl nofun).trans (writeSc_readSc v s)
  case div => exact (hwr .div rfl rfl nofun).trans (by decide : hiByte 0 = 0)
  case tac => exact (hwr .tac rfl rfl nofun).trans (writeTac_readTac v s.timer)
  case ifReg => exact (hwr .ifReg rfl rfl nofun).trans (fiveBitRead_fiveBitWrite s.cfg v)
  case ie => exact (memRead_memWrite_ie hidle v).trans (fiveBitRead_fiveBitWrite s.cfg v)
  case lcdc => exact (hwr .lcdc rfl rfl nofun).trans (writeLcdc_lcdc v s.ppu)
  case stat =>
    rw [memRead_ioReg hidle (a := 0xFF41) rfl]
    exact (hwr .stat rfl rfl nofun).trans (writeStat_readStat v s.ppu)
  case ly => exact (hwr .ly rfl rfl nofun).trans (memRead_ioReg hidle (a := 0xFF44) rfl).symm
  case unmapped =>
    intro a ha
    have hreg := ioRegOf_of_unlisted ha
    have hio : regionOf a = .io := by
      rcases ha with rfl | ha
      · rfl
      · exact regionOf_of_io (by omega) (by omega)
    exact ⟨by rw [memRead_ioReg hidle hio, hreg]; rfl, by rw [memWrite_ioReg hidle hio (by simp [hreg]), hreg]; rfl⟩

end Sys2Proof.Proofs
end

section
/-! PROOFS. The register pairs (10_state R21, R22). -/

namespace Sys2Proof.Proofs
open Sys2Proof.Machine

theorem toByte_toNat (f : Flags) :
    f.toByte.toNat = 128 * f.z.toNat + 64 * f.n.toNat + 32 * f.h.toNat + 16 * f.c.toNat := by
  obtain ⟨z, n, h, c⟩ := f
  revert z n h c
  decide

theorem toByte_ofByte (v : Byte) : (Flags.ofByte v).toByte = v &&& 0xF0 := by
  revert v
  decide

/-- Clearing the low nibble of a pair clears that of its low half. -/
theorem word_and_lowNibble (hi lo : Byte) : word hi (lo &&& 0xF0) = word hi lo &&& 0xFFF0 := by
  have hmask : (0xFFF0 : Word) = (0xFF : Byte) ++ (0xF0 : Byte) := by decide
  have hones : hi &&& 0xFF = hi := BitVec.and_allOnes
  rw [word, word, hmask, BitVec.and_append, hones]

/-- Settles O26: a pair is the `word` of its halves, `AF` that of `A` and the flags' byte. -/
theorem pairsShareStorage : Obligations.PairsShareStorage := by
  unfold Obligations.PairsShareStorage
  intro k v w
  have hpair : ∀ hi lo : Byte, (word hi lo).toNat = 256 * hi.toNat + lo.toNat := fun hi lo => by
    rw [word_toNat, Nat.mul_comm]
  have haf : k.af.toNat =
      256 * k.a.toNat + 128 * k.f.z.toNat + 64 * k.f.n.toNat + 32 * k.f.h.toNat + 16 * k.f.c.toNat := by
    rw [Cpu.af, hpair, toByte_toNat]
    omega
  have hsetAf : (k.setAf v).af = v &&& 0xFFF0 := by
    rw [Cpu.af, setAf_a, setAf_f, toByte_ofByte, word_and_lowNibble, word_hiByte_loByte]
  have hset : word (hiByte v) (loByte v) = v := word_hiByte_loByte v
  exact ⟨hpair _ _, hpair _ _, hpair _ _, haf, hset, hset, hset, hsetAf, rfl, rfl, rfl, rfl, rfl, rfl⟩

end Sys2Proof.Proofs
end

section
/-! PROOFS. Memory: plain storage, OAM and the unusable region (20_memory R85-R92), and the two kinds of OAM transfer
(20_memory R100-R105). -/

namespace Sys2Proof.Proofs
open Sys2Proof.Machine

/-! ### The decoder's ranges (20_memory R81) -/

/-- The first and the last address of a region. -/
def regionBounds : Region → Nat × Nat
  | .bootPage => (0x0000, 0x00FF)
  | .cartRom => (0x0100, 0x7FFF)
  | .vram => (0x8000, 0x9FFF)
  | .cartRam => (0xA000, 0xBFFF)
  | .wram => (0xC000, 0xDFFF)
  | .echo => (0xE000, 0xFDFF)
  | .oam => (0xFE00, 0xFE9F)
  | .unusable => (0xFEA0, 0xFEFF)
  | .io => (0xFF00, 0xFF7F)
  | .hram => (0xFF80, 0xFFFE)
  | .ie => (0xFFFF, 0xFFFF)

/-- The regions are exactly their ranges: they cover the addresses and do not overlap. -/
theorem regionOf_eq_iff {a : Word} {r : Region} :
    regionOf a = r ↔ (regionBounds r).1 ≤ a.toNat ∧ a.toNat ≤ (regionBounds r).2 := by
  have hrange := regionOf_range a
  constructor
  · rintro rfl
    cases hr : regionOf a <;> simp only [hr, regionBounds] at hrange ⊢ <;> omega
  · intro h
    cases hr : regionOf a <;> simp only [hr] at hrange <;> cases r <;> simp only [regionBounds] at h <;>
      first | rfl | omega

/-! ### A byte of storage under each of its names (20_memory R88) -/

/-- The regions whose bytes stand in `State.mem` for the CPU to read: plain storage and OAM. -/
def storedRegions : List Region := [.vram, .wram, .echo, .oam, .hram]

/-- Plain storage and OAM read their cell (20_memory R85, R87, R88, R89, R92). -/
theorem busReadUngated_of_stored {a : Word} (ha : regionOf a ∈ storedRegions) (s : State) :
    busReadUngated s a = s.mem.get (cellOf a) := by
  simp only [storedRegions, List.mem_cons, List.not_mem_nil, or_false] at ha
  rcases ha with h | h | h | h | h <;> simp only [busReadUngated, h]

theorem memRead_of_stored {a : Word} (ha : regionOf a ∈ storedRegions) {s : State} (hgate : dmaGated s a = false) :
    memRead s a = s.mem.get (cellOf a) := by
  simp [memRead, hgate, busReadUngated_of_stored ha]

/-- A cell just stored to reads back at every address it stands behind. -/
theorem memRead_pokeCell {a : Word} (ha : regionOf a ∈ storedRegions) {s : State} (hgate : dmaGated s a = false)
    {k : Nat} (hk : cellOf a = k) (v : Byte) : memRead (pokeCell k v s) a = v := by
  have hgate' : dmaGated (pokeCell k v s) a = false := hgate
  rw [memRead_of_stored ha hgate', hk, pokeCell_mem, Memory.get_set_self]

theorem cellOf_of_not_echo {a : Word} (h : regionOf a ≠ .echo) : cellOf a = a.toNat := by
  unfold cellOf
  split
  · contradiction
  · rfl

theorem cellOf_of_echo {a : Word} (h : regionOf a = .echo) : cellOf a = a.toNat - 0x2000 := by
  simp only [cellOf, h]

/-- Outside HRAM the gate does not look at the address (20_memory R105). -/
theorem dmaGated_of_not_hram {a b : Word} (ha : regionOf a ≠ .hram) (hb : regionOf b ≠ .hram) (s : State) :
    dmaGated s a = dmaGated s b := by
  rw [dmaGated, dmaGated, bne_iff_ne.mpr ha, bne_iff_ne.mpr hb]

/-- A write to plain storage stores into its cell. -/
theorem memWrite_of_plainStorage {s : State} {a : Word} (h : PlainStorage s a) (v : Byte) :
    memWrite a v s = pokeCell (cellOf a) v s := by
  obtain ⟨hregion, hgate⟩ := h
  rw [memWrite_of_not_discarded (dmaDiscards_of_not_gated hgate)]
  simp only [List.mem_cons, List.not_mem_nil, or_false] at hregion
  rcases hregion with h | h | h | h <;> simp only [busWrite, h]

theorem stored_of_plainStorage {s : State} {a : Word} (h : PlainStorage s a) : regionOf a ∈ storedRegions := by
  obtain ⟨hregion, -⟩ := h
  simp only [List.mem_cons, List.not_mem_nil, or_false] at hregion
  rcases hregion with h | h | h | h <;> rw [h] <;> decide

/-- Settles O20: the write is a store into the cell that both names of the byte read. -/
theorem storageReadsBack : Obligations.StorageReadsBack := by
  unfold Obligations.StorageReadsBack
  intro s a v h
  have hstored := stored_of_plainStorage h
  have hgate := h.2
  have hrange := regionOf_range a
  rw [memWrite_of_plainStorage h]
  refine ⟨memRead_pokeCell hstored hgate rfl v, fun hecho => ?_, fun hwram hhi => ?_⟩
  · simp only [hecho] at hrange
    have hto : (a - 0x2000).toNat = a.toNat - 0x2000 := by bv_omega
    have hr : regionOf (a - 0x2000) = .wram := regionOf_eq_iff.mpr (by omega : 0xC000 ≤ _ ∧ _ ≤ 0xDFFF)
    refine memRead_pokeCell (by rw [hr]; decide) ?_ ?_ v
    · rw [dmaGated_of_not_hram (hr.trans_ne nofun) (hecho.trans_ne nofun), hgate]
    · rw [cellOf_of_not_echo (hr.trans_ne nofun), cellOf_of_echo hecho, hto]
  · simp only [hwram] at hrange
    have hto : (a + 0x2000).toNat = a.toNat + 0x2000 := by bv_omega
    have hr : regionOf (a + 0x2000) = .echo := regionOf_eq_iff.mpr (by omega : 0xE000 ≤ _ ∧ _ ≤ 0xFDFF)
    refine memRead_pokeCell (by rw [hr]; decide) ?_ ?_ v
    · rw [dmaGated_of_not_hram (hr.trans_ne nofun) (hwram.trans_ne nofun), hgate]
    · rw [cellOf_of_echo hr, cellOf_of_not_echo (hwram.trans_ne nofun), hto, Nat.add_sub_cancel]

/-! ### OAM and the unusable region (20_memory R89, R90) -/

/-- `OamBlocked()` (20_memory R89). -/
theorem oamBlocked_iff (s : State) :
    oamBlocked s = true ↔
      s.cfg.oamWriteBlock = true ∧ s.ppu.lcdc.getLsbD 7 = true ∧
        (s.ppu.mode = .oamScan ∨ s.ppu.mode = .drawing) := by
  simp [oamBlocked, and_assoc]

theorem memWrite_of_oam {a : Word} (ha : regionOf a = .oam) {s : State} (hgate : dmaGated s a = false) (v : Byte) :
    memWrite a v s = if oamBlocked s then s else pokeCell (cellOf a) v s := by
  rw [memWrite_of_not_discarded (dmaDiscards_of_not_gated hgate)]
  simp only [busWrite, ha]

theorem memRead_of_unusable {a : Word} (ha : regionOf a = .unusable) (s : State) : memRead s a = 0xFF := by
  simp [memRead, busReadUngated, ha]

theorem memWrite_of_unusable {a : Word} (ha : regionOf a = .unusable) (v : Byte) (s : State) :
    memWrite a v s = s := by
  simp [memWrite, busWrite, ha]

/-- Settles O21: OAM by `oamBlocked_iff`, the unusable region by its arm of the decoder. -/
theorem oamAndUnusableRegion : Obligations.OamAndUnusableRegion := by
  unfold Obligations.OamAndUnusableRegion
  intro s a v
  refine ⟨fun hlo hhi hgate => ?_, fun hlo hhi => ?_⟩
  · have hr : regionOf a = .oam := regionOf_eq_iff.mpr ⟨hlo, hhi⟩
    have hstored : regionOf a ∈ storedRegions := by rw [hr]; decide
    simp only [← oamBlocked_iff, memWrite_of_oam hr hgate]
    refine ⟨fun hblocked => if_pos hblocked, fun hfree => ?_, ?_⟩
    · rw [if_neg hfree]
      exact memRead_pokeCell hstored hgate rfl v
    · rw [memRead_of_stored hstored hgate, cellOf_of_not_echo (hr.trans_ne nofun)]
  · have hr : regionOf a = .unusable := regionOf_eq_iff.mpr ⟨hlo, hhi⟩
    exact ⟨memRead_of_unusable hr s, memWrite_of_unusable hr v s⟩

/-! ### The transfers (20_memory R100-R105) -/

/-- A write to `DMA` always reaches it, a timed transfer or not (20_memory R102; log entry 16). -/
theorem memWrite_dma (v : Byte) (s : State) : memWrite 0xFF46 v s = writeDma v s :=
  memWrite_of_not_discarded (dmaDiscards_dma s) v

theorem writeDma_of_instant {s : State} (h : s.cfg.dmaMode = .instant) (v : Byte) :
    writeDma v s = (List.range 160).foldl (dmaCopy (word v 0)) (ioWriteReg v s .dma) := by
  simp only [writeDma, (sameCore_ioWriteReg v s .dma).cfg, h]

theorem writeDma_of_timed {s : State} (h : s.cfg.dmaMode = .timed) (v : Byte) :
    writeDma v s = { s with dma := { page := v, active := true, source := word v 0, index := 0 } } := by
  simp only [writeDma, (sameCore_ioWriteReg v s .dma).cfg, h]
  rfl

/-- Copying changes `State.mem` alone. -/
theorem dmaCopies_eq (base : Word) (is : List Nat) (s : State) :
    is.foldl (dmaCopy base) s = { s with mem := (is.foldl (dmaCopy base) s).mem } := by
  induction is generalizing s with
  | nil => rfl
  | cons i is ih => exact ih (dmaCopy base s i)

/-- The copies of the first `n` bytes touch only the first `n` bytes of OAM. -/
theorem dmaCopies_get_of_ne (base : Word) (s : State) {k : Nat} (n : Nat) (hk : ∀ i < n, k ≠ 0xFE00 + i) :
    ((List.range n).foldl (dmaCopy base) s).mem.get k = s.mem.get k := by
  induction n with
  | zero => rfl
  | succ n ih =>
    rw [List.range_succ, List.foldl_append]
    exact (Memory.get_set_of_ne _ _ (hk n (by omega))).trans (ih fun i hi => hk i (by omega))

theorem oamAddr_toNat {i : Nat} (hi : i < 160) : (0xFE00 + BitVec.ofNat 16 i : Word).toNat = 0xFE00 + i := by
  simp
  omega

/-- The copies before byte `i` leave its source: it is outside OAM, or it is byte `i` of OAM itself. -/
theorem dmaCopies_source (v : Byte) (s : State) {i : Nat} (hi : i < 160) :
    busReadUngated ((List.range i).foldl (dmaCopy (word v 0)) s) (word v 0 + BitVec.ofNat 16 i) =
      busReadUngated s (word v 0 + BitVec.ofNat 16 i) := by
  by_cases hr : regionOf (word v 0 + BitVec.ofNat 16 i) = .oam
  · have hstored : regionOf (word v 0 + BitVec.ofNat 16 i) ∈ storedRegions := by rw [hr]; decide
    have hrange := regionOf_range (word v 0 + BitVec.ofNat 16 i)
    simp only [hr] at hrange
    rw [busReadUngated_of_stored hstored, busReadUngated_of_stored hstored, cellOf_of_not_echo (hr.trans_ne nofun)]
    refine dmaCopies_get_of_ne _ _ _ fun j hj => ?_
    have hword : (word v 0).toNat = v.toNat * 256 := by simp
    have hv := v.isLt
    have hto : (word v 0 + BitVec.ofNat 16 i).toNat = v.toNat * 256 + i := by
      rw [BitVec.toNat_add, hword, BitVec.toNat_ofNat]
      omega
    omega
  · exact busReadUngated_dmaCopies _ _ (fun j hj => by have := List.mem_range.mp hj; omega) s hr

/-- After the first `n` copies the first `n` bytes of OAM are those of the source. -/
theorem dmaCopies_get (v : Byte) (s : State) {n : Nat} (hn : n ≤ 160) {i : Nat} (hi : i < n) :
    ((List.range n).foldl (dmaCopy (word v 0)) s).mem.get (0xFE00 + i) =
      busReadUngated s (word v 0 + BitVec.ofNat 16 i) := by
  induction n with
  | zero => omega
  | succ n ih =>
    rw [List.range_succ, List.foldl_append]
    show (Memory.set _ (0xFE00 + n) (busReadUngated _ _)).get (0xFE00 + i) = _
    by_cases hin : i = n
    · rw [hin, Memory.get_set_self, dmaCopies_source v s (by omega)]
    · rw [Memory.get_set_of_ne _ _ (by omega)]
      exact ih (by omega) (by omega)

/-- Settles O24: the copies in order, each from a source the ones before it left alone. -/
theorem instantDmaCopies : Obligations.InstantDmaCopies := by
  unfold Obligations.InstantDmaCopies
  intro s t v hmode ht
  rw [memWrite_dma, writeDma_of_instant hmode] at ht
  have hframe : t = { s with dma := { s.dma with page := v }, mem := t.mem } := by
    rw [ht]
    exact dmaCopies_eq _ _ (ioWriteReg v s .dma)
  refine ⟨by rw [hframe], fun i hi => ?_, fun k hk => ?_, hframe⟩
  · have hto := oamAddr_toNat hi
    have hr : regionOf (0xFE00 + BitVec.ofNat 16 i) = .oam :=
      regionOf_eq_iff.mpr (by omega : 0xFE00 ≤ _ ∧ _ ≤ 0xFE9F)
    have hgate : dmaGated t (0xFE00 + BitVec.ofNat 16 i) = false := by
      rw [hframe]
      simp [dmaGated, hmode]
    rw [memRead_of_stored (by rw [hr]; decide) hgate, cellOf_of_not_echo (hr.trans_ne nofun), hto, ht]
    exact dmaCopies_get v (ioWriteReg v s .dma) (Nat.le_refl 160) hi
  · rw [ht]
    exact dmaCopies_get_of_ne _ (ioWriteReg v s .dma) 160 fun i hi => by omega

theorem dmaGated_of_timed {s : State} (hmode : s.cfg.dmaMode = .timed) (hactive : s.dma.active = true) (a : Word) :
    dmaGated s a = true ↔ regionOf a ≠ .hram := by
  simp [dmaGated, hmode, hactive]

/-- Settles O25: the engine by `dmaMCycle_eq`, the CPU's side by the gate, which lets HRAM through. -/
theorem timedDmaRuns : Obligations.TimedDmaRuns := by
  unfold Obligations.TimedDmaRuns
  intro s hmode
  refine ⟨fun v => ?start, fun hactive hindex => ?copy, fun hidle => ?idle, fun hactive a v ha => ?outside,
    fun hactive a v hlo hhi => ?hram⟩
  case start => rw [memWrite_dma, writeDma_of_timed hmode]
  case copy =>
    have hlast : (s.dma.index + 1 != 160) = decide (s.dma.index < 159) := by
      rw [Bool.eq_iff_iff, bne_iff_ne, decide_eq_true_iff]
      omega
    rw [dmaMCycle_eq, if_pos ⟨hmode, hactive⟩, hlast]
  case idle => rw [dmaMCycle_eq, if_neg (by simp [hidle])]
  case outside =>
    have hgate : dmaGated s a = true := (dmaGated_of_timed hmode hactive a).mpr (mt regionOf_eq_iff.mp ha)
    exact ⟨by simp [memRead, hgate], fun hne => memWrite_of_discarded ((dmaDiscards_of_ne s hne).trans hgate) v⟩
  case hram =>
    have hr : regionOf a = .hram := regionOf_eq_iff.mpr ⟨hlo, hhi⟩
    have hgate : dmaGated s a = false := by simp [dmaGated, hr]
    have hplain : PlainStorage s a := ⟨by rw [hr]; decide, hgate⟩
    have hstored := stored_of_plainStorage hplain
    rw [memWrite_of_plainStorage hplain, memRead_of_stored hstored hgate, cellOf_of_not_echo (hr.trans_ne nofun)]
    exact ⟨rfl, memRead_pokeCell hstored hgate (cellOf_of_not_echo (hr.trans_ne nofun)) v⟩

end Sys2Proof.Proofs
end

section
/-! PROOFS. What an instruction changes outside the CPU: its stores, in order (20_memory R82, R98, R107). -/

namespace Sys2Proof.Proofs
open Sys2Proof.Machine

/-! ### Stores one after the other -/

/-- The stores `ws`, each an address and a byte, the head first. -/
def storeAll (ws : List (Word × Byte)) (s : State) : State := ws.foldl (fun t w => memWrite w.1 w.2 t) s

/-- What a bus write keeps, any number of them keeps. -/
theorem storeAll_induct {P : State → Prop} (h : ∀ a v s, P s → P (memWrite a v s)) (ws : List (Word × Byte))
    {s : State} (hs : P s) : P (storeAll ws s) := by
  unfold storeAll
  induction ws generalizing s with
  | nil => exact hs
  | cons w ws ih => exact ih (h w.1 w.2 s hs)

theorem sameCore_storeAll (ws : List (Word × Byte)) (s : State) : SameCore s (storeAll ws s) :=
  storeAll_induct (P := SameCore s) (fun a v t ht => ht.trans (sameCore_memWrite a v t)) ws (.refl s)

/-- A read that none of the stores reaches is as before (20_memory R98). -/
theorem memRead_storeAll {a : Word} (ha : ¬AudioAddr a) (ws : List (Word × Byte)) (s : State)
    (hreach : ∀ w ∈ ws.map Prod.fst, writeReaches s.cfg w a = false) : memRead (storeAll ws s) a = memRead s a := by
  induction ws generalizing s with
  | nil => rfl
  | cons w ws ih =>
    simp only [List.map_cons, List.forall_mem_cons] at hreach
    obtain ⟨hw, hws⟩ := hreach
    exact (ih (memWrite w.1 w.2 s) (by rwa [memWrite_cfg])).trans (memRead_memWrite_of_not_reaches w.2 s ha hw)

/-- `t` is `s` after stores to the addresses `as`, in order, but for the CPU and the count; the CPU's mode and its
halt-bug bit are as they were. -/
structure OnlyStores (as : List Word) (s t : State) : Prop where
  stores : ∃ ws : List (Word × Byte), ws.map Prod.fst = as ∧
    t = { storeAll ws s with cpu := t.cpu, elapsed := t.elapsed }
  mode : t.cpu.mode = s.cpu.mode
  haltBug : t.cpu.haltBug = s.cpu.haltBug

namespace OnlyStores
variable {as : List Word} {s t u : State}

theorem refl (s : State) : OnlyStores [] s s := ⟨⟨[], rfl, rfl⟩, rfl, rfl⟩

theorem memWrite (a : Word) (v : Byte) (s : State) : OnlyStores [a] s (memWrite a v s) :=
  ⟨⟨[(a, v)], rfl, rfl⟩, congrArg Cpu.mode (memWrite_cpu a v s), congrArg Cpu.haltBug (memWrite_cpu a v s)⟩

/-- A change of the CPU after the stores. -/
theorem onCpu (h : OnlyStores as s t) {g : Cpu → Cpu} (hmode : (g t.cpu).mode = t.cpu.mode)
    (hbug : (g t.cpu).haltBug = t.cpu.haltBug) : OnlyStores as s (onCpu g t) := by
  obtain ⟨⟨ws, hws, ht⟩, hm, hb⟩ := h
  exact ⟨⟨ws, hws, congrArg (Machine.onCpu g) ht⟩, hmode.trans hm, hbug.trans hb⟩

/-- The count. -/
theorem done (h : OnlyStores as s u) {n : Nat} (hdone : done n u = .next t) : OnlyStores as s t := by
  obtain ⟨⟨ws, hws, hu⟩, hm, hb⟩ := h
  rw [done_inj hdone]
  exact ⟨⟨ws, hws, congrArg (fun w : State => { w with elapsed := n }) hu⟩, hm, hb⟩

theorem memWrite16 (a v : Word) (s : State) : OnlyStores [a, a + 1] s (memWrite16 a v s) := by
  have hcpu : (Machine.memWrite16 a v s).cpu = s.cpu := by simp [Machine.memWrite16]
  exact ⟨⟨[(a, loByte v), (a + 1, hiByte v)], rfl, rfl⟩, by rw [hcpu], by rw [hcpu]⟩

/-- A push stores at `SP-1`, then at `SP-2` (00_scope R14). -/
theorem push16 (v : Word) (s : State) : OnlyStores [s.cpu.sp - 1, s.cpu.sp - 2] s (push16 v s) := by
  refine ⟨⟨[(s.cpu.sp - 1, hiByte v), (s.cpu.sp - 2, loByte v)], rfl, ?_⟩, by simp, by simp⟩
  rw [push16_eq]
  rfl

/-- A pop stores nothing. -/
theorem pop16 (s : State) : OnlyStores [] s (pop16 s).2 := by
  rw [pop16_snd]
  exact (refl s).onCpu rfl rfl

theorem returnTo (s : State) : OnlyStores [] s (returnTo s) := by
  rw [returnTo_eq]
  exact (refl s).onCpu rfl rfl

end OnlyStores

/-- Where a write to an operand stores: at `HL`, or nowhere (43 R304). -/
def operandStores (o : Operand8) (s : State) : List Word :=
  match o with
  | .reg _ => []
  | .atHl => [s.cpu.hl]

theorem onlyStores_writeOperand (o : Operand8) (v : Byte) (s : State) :
    OnlyStores (operandStores o s) s (writeOperand o v s) := by
  cases o with
  | reg r => exact (OnlyStores.refl s).onCpu (setReg8_mode _ _ _) (setReg8_haltBug _ _ _)
  | atHl => exact OnlyStores.memWrite _ _ s

/-! ### The families -/

/-- The instruction makes its stores and changes nothing else but registers, flags, pc and interrupt enable. -/
def KeepsToStores (i : Instr) : Prop :=
  ∀ s t : State, exec i s = .next t → OnlyStores (storeAddresses i s) s t

theorem keepsToStores_of {i : Instr} {as : State → List Word} (haddr : ∀ s, storeAddresses i s = as s)
    (h : ∀ s t : State, exec i s = .next t → OnlyStores (as s) s t) : KeepsToStores i := by
  intro s t hexec
  rw [haddr]
  exact h s t hexec

/-- An instruction without a store, as a change of the CPU and a count. -/
theorem keepsToStores_of_onCpu {i : Instr} {g : State → Cpu → Cpu} {n : Nat}
    (haddr : ∀ s, storeAddresses i s = []) (hexec : ∀ s, exec i s = done n (onCpu (g s) s))
    (hmode : ∀ s, (g s s.cpu).mode = s.cpu.mode) (hbug : ∀ s, (g s s.cpu).haltBug = s.cpu.haltBug) :
    KeepsToStores i := by
  refine keepsToStores_of haddr fun s t h => ?_
  rw [hexec] at h
  exact ((OnlyStores.refl s).onCpu (hmode s) (hbug s)).done h

theorem keepsToStores_ldReg (r : Reg8) (o : Operand8) : KeepsToStores (instrLd (.reg r) o) := by
  refine keepsToStores_of (as := fun _ => []) (fun s => ?_) fun s t h => ?_
  · cases o with
    | reg q => cases r <;> cases q <;> rfl
    | atHl => cases r <;> rfl
  · rw [exec_instrLd_reg] at h
    exact (onlyStores_writeOperand (.reg r) _ s).done h

theorem keepsToStores_ldImm (o : Operand8) (n : Byte) : KeepsToStores (instrLdImm o n) := by
  refine keepsToStores_of (as := operandStores o) (fun s => ?_) fun s t h => ?_
  · cases o with
    | reg r => cases r <;> rfl
    | atHl => rfl
  · rw [exec_instrLdImm] at h
    exact (onlyStores_writeOperand o _ s).done h

/-- The address of an accumulator store is that of its bytes (40_loads R169). -/
theorem storeAddresses_storeA (m : Addressing) (s : State) :
    storeAddresses (storeAInstr m) s = [effectiveAddress s m] := by
  cases m with
  | absolute nn => exact congrArg (fun a => [a]) (word_hiByte_loByte nn)
  | _ => rfl

theorem keepsToStores_storeA (m : Addressing) : KeepsToStores (storeAInstr m) := by
  refine keepsToStores_of (storeAddresses_storeA m) fun s t h => ?_
  rw [exec_storeAInstr] at h
  exact ((OnlyStores.memWrite _ _ s).onCpu (afterAddressing_mode _ _) (afterAddressing_haltBug _ _)).done h

theorem keepsToStores_alu (op : AluOp) (src : Source8) : KeepsToStores (aluInstr op src) := by
  refine keepsToStores_of_onCpu (fun s => ?_) (exec_aluInstr op src) (fun _ => rfl) fun _ => rfl
  cases src with
  | imm n => cases op <;> rfl
  | op o =>
    cases o with
    | reg r => cases op <;> cases r <;> rfl
    | atHl => cases op <;> rfl

/-- `INC`, `DEC`, `RES`, `SET` and the CB rotates: an operand written, then flags. -/
theorem keepsToStores_operand {i : Instr} {o : Operand8} {v : State → Byte} {f : State → Flags} {n : Nat}
    (haddr : ∀ s, storeAddresses i s = operandStores o s)
    (hexec : ∀ s, exec i s = done n (onCpu (fun k => { k with f := f s }) (writeOperand o (v s) s))) :
    KeepsToStores i := by
  refine keepsToStores_of haddr fun s t h => ?_
  rw [hexec] at h
  exact ((onlyStores_writeOperand o _ s).onCpu rfl rfl).done h

theorem keepsToStores_inc (o : Operand8) : KeepsToStores (instrInc o) := by
  refine keepsToStores_operand (o := o) (fun s => ?_) (exec_instrInc o)
  cases o with
  | reg r => cases r <;> rfl
  | atHl => rfl

theorem keepsToStores_dec (o : Operand8) : KeepsToStores (instrDec o) := by
  refine keepsToStores_operand (o := o) (fun s => ?_) (exec_instrDec o)
  cases o with
  | reg r => cases r <;> rfl
  | atHl => rfl

theorem keepsToStores_rot (op : RotOp) (o : Operand8) : KeepsToStores (instrRot op o) := by
  refine keepsToStores_operand (o := o) (fun s => ?_) (exec_instrRot op o)
  cases o with
  | reg r => cases op <;> cases r <;> rfl
  | atHl => cases op <;> rfl

theorem keepsToStores_bit (b : BitIndex) (o : Operand8) : KeepsToStores (instrBit b o) := by
  refine keepsToStores_of_onCpu (fun s => ?_) (exec_instrBit b o) (fun _ => rfl) fun _ => rfl
  cases o with
  | reg r => cases b <;> cases r <;> rfl
  | atHl => cases b <;> rfl

theorem keepsToStores_res (b : BitIndex) (o : Operand8) : KeepsToStores (instrRes b o) := by
  refine keepsToStores_of (as := operandStores o) (fun s => ?_) fun s t h => ?_
  · cases o with
    | reg r => cases b <;> cases r <;> rfl
    | atHl => cases b <;> rfl
  · rw [exec_instrRes] at h
    exact (onlyStores_writeOperand o _ s).done h

theorem keepsToStores_set (b : BitIndex) (o : Operand8) : KeepsToStores (instrSet b o) := by
  refine keepsToStores_of (as := operandStores o) (fun s => ?_) fun s t h => ?_
  · cases o with
    | reg r => cases b <;> cases r <;> rfl
    | atHl => cases b <;> rfl
  · rw [exec_instrSet] at h
    exact (onlyStores_writeOperand o _ s).done h

theorem keepsToStores_cbPrefix (c : Byte) : KeepsToStores (.cb_prefix c) := by
  have hcb : KeepsToStores (decodeCb c) :=
    decodeCb_cases (P := KeepsToStores) keepsToStores_rot keepsToStores_bit keepsToStores_res keepsToStores_set c
  have haddr : ∀ s, storeAddresses (.cb_prefix c) s = storeAddresses (decodeCb c) s := fun s => by
    unfold storeAddresses
    rw [encode_decodeCb]
  exact keepsToStores_of haddr fun s t h => hcb s t ((exec_cb_prefix_eq c s).symm.trans h)

/-- A jump, taken or not. -/
theorem onlyStores_jumpIf {cc : Cond} {target : Word} {n n' : Nat} {s t : State}
    (h : jumpIf cc target n n' s = .next t) : OnlyStores [] s t := by
  unfold jumpIf at h
  split at h
  · exact ((OnlyStores.refl s).onCpu rfl rfl).done h
  · exact (OnlyStores.refl s).done h

theorem onlyStores_call {target : Word} {n : Nat} {s t : State} (h : call target n s = .next t) :
    OnlyStores [s.cpu.sp - 1, s.cpu.sp - 2] s t :=
  ((OnlyStores.push16 _ s).onCpu rfl rfl).done h

theorem onlyStores_retIf {cc : Cond} {n n' : Nat} {s t : State} (h : retIf cc n n' s = .next t) :
    OnlyStores [] s t := by
  unfold retIf at h
  split at h
  · exact (OnlyStores.returnTo s).done h
  · exact (OnlyStores.refl s).done h

/-- A conditional call stores where it is taken (44_control R357). -/
theorem keepsToStores_callCond (cc : Cond) (nn : Word) : KeepsToStores (instrCallCond cc nn) := by
  refine keepsToStores_of (as := fun s => if s.cpu.f.holds cc then [s.cpu.sp - 1, s.cpu.sp - 2] else [])
    (fun s => ?_) fun s t h => ?_
  · cases cc <;> exact if_congr (and_iff_right (by decide)) rfl rfl
  · rw [exec_instrCallCond, callIf] at h
    split at h
    · rw [if_pos ‹_›]
      exact onlyStores_call h
    · rw [if_neg ‹_›]
      exact (OnlyStores.refl s).done h

/-- Every instruction but `HALT`, `STOP` and the undefined opcodes keeps to its stores. -/
theorem keepsToStores (i : Instr) (hhalt : i ≠ .halt) (hstop : ∀ n, i ≠ .stop n)
    (hundef : i ∉ undefinedRows.map Prod.snd) : KeepsToStores i := by
  cases i using Instr.family_cases with
  | ldReg r o => exact keepsToStores_ldReg r o
  | ldAtHl r =>
    refine keepsToStores_of (as := operandStores .atHl) (fun s => by cases r <;> rfl) fun s t h => ?_
    rw [exec_instrLd_atHl] at h
    exact (onlyStores_writeOperand .atHl _ s).done h
  | ldImm o n => exact keepsToStores_ldImm o n
  | loadA m =>
    exact keepsToStores_of_onCpu (fun s => by cases m <;> rfl) (exec_loadAInstr m)
      (fun _ => afterAddressing_mode _ _) fun _ => afterAddressing_haltBug _ _
  | storeA m => exact keepsToStores_storeA m
  | ldPair p nn =>
    exact keepsToStores_of_onCpu (fun s => by cases p <;> rfl) (exec_instrLdPair p nn)
      (fun _ => setPair_mode _ _ _) fun _ => setPair_haltBug _ _ _
  | storeSp nn =>
    refine keepsToStores_of (as := fun _ => [nn, nn + 1]) (fun s => ?_) fun s t h =>
      (OnlyStores.memWrite16 nn _ s).done h
    exact congrArg (fun a => [a, a + 1]) (word_hiByte_loByte nn)
  | push p =>
    refine keepsToStores_of (as := fun s => [s.cpu.sp - 1, s.cpu.sp - 2]) (fun s => by cases p <;> rfl) fun s t h => ?_
    rw [exec_instrPush] at h
    exact (OnlyStores.push16 _ s).done h
  | pop p =>
    refine keepsToStores_of (as := fun _ => []) (fun s => by cases p <;> rfl) fun s t h => ?_
    rw [exec_instrPop] at h
    exact ((OnlyStores.pop16 s).onCpu (setStackPair_mode _ _ _) (setStackPair_haltBug _ _ _)).done h
  | alu op src => exact keepsToStores_alu op src
  | inc o => exact keepsToStores_inc o
  | dec o => exact keepsToStores_dec o
  | incPair p =>
    exact keepsToStores_of_onCpu (fun s => by cases p <;> rfl) (exec_instrIncPair p)
      (fun _ => setPair_mode _ _ _) fun _ => setPair_haltBug _ _ _
  | decPair p =>
    exact keepsToStores_of_onCpu (fun s => by cases p <;> rfl) (exec_instrDecPair p)
      (fun _ => setPair_mode _ _ _) fun _ => setPair_haltBug _ _ _
  | addHl p =>
    exact keepsToStores_of_onCpu (fun s => by cases p <;> rfl) (exec_instrAddHl p) (fun _ => rfl) fun _ => rfl
  | rot op o => exact keepsToStores_rot op o
  | bit b o => exact keepsToStores_bit b o
  | res b o => exact keepsToStores_res b o
  | set b o => exact keepsToStores_set b o
  | jpCond cc nn =>
    refine keepsToStores_of (as := fun _ => []) (fun s => by cases cc <;> rfl) fun s t h => ?_
    rw [exec_instrJpCond] at h
    exact onlyStores_jumpIf h
  | jrCond cc e =>
    refine keepsToStores_of (as := fun _ => []) (fun s => by cases cc <;> rfl) fun s t h => ?_
    rw [exec_instrJrCond] at h
    exact onlyStores_jumpIf h
  | call nn => exact fun s t h => onlyStores_call h
  | callCond cc nn => exact keepsToStores_callCond cc nn
  | ret => exact fun s t h => (OnlyStores.returnTo s).done h
  | retCond cc =>
    refine keepsToStores_of (as := fun _ => []) (fun s => by cases cc <;> rfl) fun s t h => ?_
    rw [exec_instrRetCond] at h
    exact onlyStores_retIf h
  | reti => exact fun s t h => ((OnlyStores.returnTo s).onCpu rfl rfl).done h
  | rst v =>
    refine keepsToStores_of (as := fun s => [s.cpu.sp - 1, s.cpu.sp - 2]) (fun s => by cases v <;> rfl) fun s t h => ?_
    rw [exec_instrRst] at h
    exact onlyStores_call h
  | ldSpHl | daa | cpl | scf | ccf | addSp | ldHlSp | rlca | rrca | rla | rra | jp | jpHl | jr | di | ei =>
    exact keepsToStores_of_onCpu (fun _ => rfl) (fun _ => rfl) (fun _ => rfl) fun _ => rfl
  | nop => exact fun s t h => (OnlyStores.refl s).done h
  | halt => exact absurd rfl hhalt
  | stop n => exact absurd rfl (hstop n)
  | undefined p hp => exact absurd (List.mem_map_of_mem hp) hundef
  | cbPrefix c => exact keepsToStores_cbPrefix c

/-- What an instruction can do: keep to its stores, or be one of those that stop the CPU or may. -/
theorem exec_cases {i : Instr} {s t : State} (h : exec i s = .next t) :
    OnlyStores (storeAddresses i s) s t ∨ (i = .halt ∧ halt 1 s = .next t) ∨
      (∃ n, i = .stop n ∧ stop 1 s = .next t) ∨
      ∃ p ∈ undefinedRows, i = p.2 ∧ undefinedOpcode p.1 1 s = .next t := by
  by_cases hhalt : i = .halt
  · subst hhalt
    exact .inr (.inl ⟨rfl, h⟩)
  by_cases hstop : ∃ n, i = .stop n
  · obtain ⟨n, rfl⟩ := hstop
    exact .inr (.inr (.inl ⟨n, rfl, h⟩))
  by_cases hundef : i ∈ undefinedRows.map Prod.snd
  · obtain ⟨p, hp, rfl⟩ := List.mem_map.mp hundef
    exact .inr (.inr (.inr ⟨p, hp, rfl, (exec_undefined hp s).symm.trans h⟩))
  · exact .inl (keepsToStores i hhalt (fun n hn => hstop ⟨n, hn⟩) hundef s t h)

/-! ### The instructions that stop the CPU (45_system R392, R394, R398) -/

section
variable {n : Nat} {s t : State}

/-- `HALT` changes the CPU alone. -/
theorem halt_frame (h : halt n s = .next t) : t = { s with cpu := t.cpu, elapsed := t.elapsed } := by
  unfold halt at h
  split at h
  · rw [done_inj h]; rfl
  · split at h
    · rw [done_inj h]; rfl
    · rw [done_inj h]

/-- `STOP` changes the CPU, the report and, unless refused, the divider. -/
theorem stop_frame (h : stop n s = .next t) :
    t = { s with cpu := t.cpu, elapsed := t.elapsed, diagnostic := t.diagnostic, timer := t.timer } ∧
      (t.timer = s.timer ∨ t.timer = { s.timer with divCounter := 0 }) := by
  unfold stop at h
  split at h
  · rw [done_inj h]
    exact ⟨rfl, .inr rfl⟩
  · rw [done_inj h]
    exact ⟨rfl, .inl rfl⟩

/-- An undefined opcode changes the CPU and the report alone. -/
theorem undefinedOpcode_frame {op : Byte} (h : undefinedOpcode op n s = .next t) :
    t = { s with cpu := t.cpu, elapsed := t.elapsed, diagnostic := t.diagnostic } := by
  unfold undefinedOpcode at h
  split at h
  · rw [done_inj h]; rfl
  · rw [done_inj h]

end

/-! ### What stays to be read -/

/-- Outside the audio registers a read looks at neither the CPU, the count nor the report. -/
theorem memRead_frame {a : Word} (ha : ¬AudioAddr a) (s : State) (k : Cpu) (n : Nat) (d : Option IllegalOpcode) :
    memRead { s with cpu := k, elapsed := n, diagnostic := d } a = memRead s a :=
  memRead_onCpu_of_not_audio (fun _ => k) { s with elapsed := n, diagnostic := d } ha

/-- The divider shows in `DIV` alone (10_state R36). -/
theorem memRead_divCounter {a : Word} (ha : a ≠ 0xFF04) (s : State) (w : Word) :
    memRead { s with timer := { s.timer with divCounter := w } } a = memRead s a := by
  have hungated : busReadUngated { s with timer := { s.timer with divCounter := w } } a = busReadUngated s a := by
    refine busReadUngated_congr a rfl rfl (fun _ => rfl) rfl rfl fun _ => ?_
    have hat := ioRegOf_at a
    unfold ioRead
    cases hr : ioRegOf a
    case div => rw [hr] at hat; exact absurd hat ha
    all_goals rfl
  unfold memRead
  rw [hungated]
  rfl

theorem OnlyStores.memRead {as : List Word} {s t : State} {a : Word} (h : OnlyStores as s t) (ha : ¬AudioAddr a)
    (hreach : ∀ w ∈ as, writeReaches s.cfg w a = false) : memRead t a = memRead s a := by
  obtain ⟨⟨ws, rfl, ht⟩, -, -⟩ := h
  rw [ht]
  exact (memRead_frame ha (storeAll ws s) t.cpu t.elapsed _).trans (memRead_storeAll ha ws s hreach)

/-- Settles O19: by what the instruction can do; its stores are those of its bytes, and reads apart from them stay. -/
theorem storesReachOnlyTheirAddresses : Obligations.StoresReachOnlyTheirAddresses := by
  unfold Obligations.StoresReachOnlyTheirAddresses
  intro i s t a h ha hreach hdiv
  rcases exec_cases h with hstores | ⟨-, h⟩ | ⟨n, rfl, h⟩ | ⟨p, -, -, h⟩
  · exact hstores.memRead ha hreach
  · rw [halt_frame h]
    exact memRead_frame ha s _ _ _
  · obtain ⟨hframe, htimer⟩ := stop_frame h
    have hread : memRead { s with timer := t.timer } a = memRead s a := by
      rcases htimer with hkept | hclear
      · rw [hkept]
      · rw [hclear]
        exact memRead_divCounter (hdiv rfl) s 0
    rw [hframe]
    exact (memRead_frame ha { s with timer := t.timer } _ _ _).trans hread
  · rw [undefinedOpcode_frame h]
    exact memRead_frame ha s _ _ _

end Sys2Proof.Proofs
end

section
/-! PROOFS. Every step keeps the machine invariant: its bus part by the bus writes and the devices, its control part by
the instructions that change the CPU's mode. -/

namespace Sys2Proof.Proofs
open Sys2Proof.Machine

/-! ### The invariant in two parts -/

/-- No exchange with the internal clock is left in progress (62_serial_joypad R501). -/
def SerialOk (c : Serial) : Prop := c.transfer = true → c.internalClock = false

/-- The part of the invariant that speaks of memory and devices. -/
structure BusOk (s : State) : Prop where
  mem : MemOk s.mem
  boot : Memory.wf s.cfg.bootRom
  ppu : PpuOk s.ppu
  dma : DmaOk s
  serial : SerialOk s.serial

/-- The part that speaks of the CPU's mode, its halt-bug bit and the report. -/
structure ControlOk (s : State) : Prop where
  haltBug : s.cpu.haltBug = true → s.cpu.mode = .running ∧ s.cfg.haltBug = true
  locked : s.diagnostic.isSome = true ↔ s.cpu.mode = .locked

theorem inv_iff (s : State) : State.Inv s ↔ BusOk s ∧ ControlOk s := by
  constructor
  · intro h
    exact ⟨⟨⟨h.mem_wf, h.mem_storage⟩, h.boot_wf, ⟨h.ly_le, h.dot_lt, h.mode_on, h.mode_off, h.fb_wf⟩, h.dma_active,
      h.serial_done⟩, ⟨h.halt_bug, h.locked⟩⟩
  · rintro ⟨⟨⟨hwf, hstorage⟩, hboot, ⟨hly, hdot, hon, hoff, hfb⟩, hdma, hserial⟩, ⟨hbug, hlocked⟩⟩
    exact ⟨hwf, hstorage, hboot, hly, hdot, hon, hoff, hfb, hdma, hbug, hlocked, hserial⟩

/-- The bus part looks at these parts of the state alone. -/
theorem BusOk.congr {s t : State} (h : BusOk s) (hmem : t.mem = s.mem) (hcfg : t.cfg = s.cfg) (hppu : t.ppu = s.ppu)
    (hdma : t.dma = s.dma) (hserial : t.serial = s.serial) : BusOk t := by
  refine ⟨hmem ▸ h.mem, hcfg ▸ h.boot, hppu ▸ h.ppu, ?_, hserial ▸ h.serial⟩
  unfold DmaOk
  rw [hdma, hcfg]
  exact h.dma

/-- The control part looks at these parts of the state alone. -/
theorem ControlOk.congr {s t : State} (h : ControlOk s) (hmode : t.cpu.mode = s.cpu.mode)
    (hbug : t.cpu.haltBug = s.cpu.haltBug) (hdiag : t.diagnostic = s.diagnostic) (hcfg : t.cfg = s.cfg) :
    ControlOk t := by
  refine ⟨?_, ?_⟩
  · rw [hmode, hbug, hcfg]
    exact h.haltBug
  · rw [hmode, hdiag]
    exact h.locked

/-- Where no halt bug waits, it is enough that the CPU is unlocked and nothing is reported. -/
theorem controlOk_of_unlocked {s : State} (hbug : s.cpu.haltBug = false) (hmode : s.cpu.mode ≠ .locked)
    (hdiag : s.diagnostic = none) : ControlOk s :=
  ⟨by simp [hbug], by simp [hdiag, hmode]⟩

/-- Or that it is locked and the report is there. -/
theorem controlOk_of_locked {s : State} (hbug : s.cpu.haltBug = false) (hmode : s.cpu.mode = .locked)
    (hdiag : s.diagnostic.isSome = true) : ControlOk s :=
  ⟨by simp [hbug], by simp [hdiag, hmode]⟩

theorem ControlOk.diagnostic_eq_none {s : State} (h : ControlOk s) (hmode : s.cpu.mode ≠ .locked) :
    s.diagnostic = none := by
  have hnone := mt h.locked.mp hmode
  simpa using hnone

theorem ControlOk.haltBug_eq_false {s : State} (h : ControlOk s) (hmode : s.cpu.mode ≠ .running) :
    s.cpu.haltBug = false :=
  Bool.eq_false_iff.mpr fun hbug => hmode (h.haltBug hbug).1

/-! ### A bus write keeps the bus part -/

/-- What the effects of a bus write keep, the write keeps: a cartridge write, stored cells, `IE`, an I/O register, and
the start of a timed transfer. -/
theorem memWrite_induct {P : State → Prop} {s : State} (hs : P s) (hcart : ∀ a v, P (cartWrite a v s))
    (hpoke : ∀ k v t, P t → P (pokeCell k v t)) (hie : ∀ e, P { s with irq := { s.irq with enable := e } })
    (hreg : ∀ v r, P (ioWriteReg v s r))
    (htimed : s.cfg.dmaMode = .timed →
      ∀ v, P { s with dma := { page := v, active := true, source := word v 0, index := 0 } })
    (a : Word) (v : Byte) : P (memWrite a v s) := by
  unfold memWrite
  split
  · exact hs
  unfold busWrite
  cases regionOf a
  case bootPage | cartRom | cartRam => exact hcart a v
  case vram | wram | echo | hram => exact hpoke _ _ _ hs
  case oam => exact ite_elim (fun _ => hs) fun _ => hpoke _ _ _ hs
  case unusable => exact hs
  case ie => exact hie _
  case io =>
    by_cases hdma : ioRegOf a = .dma
    · simp only [ioWrite, hdma]
      cases hmode : s.cfg.dmaMode
      case timed =>
        rw [writeDma_of_timed hmode]
        exact htimed hmode v
      case instant =>
        rw [writeDma_of_instant hmode]
        exact List.foldlRecOn _ _ (hreg v .dma) fun t ht i _ => hpoke _ _ t ht
    · simp only [ioWrite_of_ne_dma hdma]
      exact hreg v _

theorem dmaOk_ioWriteReg (v : Byte) {s : State} (r : IoReg) (h : DmaOk s) : DmaOk (ioWriteReg v s r) := by
  have hcfg := (sameCore_ioWriteReg v s r).cfg
  have hdma : (ioWriteReg v s r).dma = { s.dma with page := (ioWriteReg v s r).dma.page } := by
    cases r
    case p1 => simp [ioWriteReg, writeP1, joypadEdge]
    case sc => simp only [ioWriteReg, writeSc]; split <;> rfl
    case boot => simp only [ioWriteReg]; split <;> rfl
    all_goals rfl
  unfold DmaOk
  rw [hcfg, hdma]
  exact h

/-- A write to `SC` that starts the internal clock completes the exchange at once (62_serial_joypad R501). -/
theorem serialOk_writeSc (v : Byte) (s : State) : SerialOk (writeSc v s).serial := by
  unfold writeSc SerialOk
  split
  · exact nofun
  · rename_i h
    simpa using h

theorem serialOk_ioWriteReg (v : Byte) {s : State} (r : IoReg) (h : SerialOk s.serial) :
    SerialOk (ioWriteReg v s r).serial := by
  cases r
  case p1 => simpa [ioWriteReg, writeP1, joypadEdge] using h
  case sc => exact serialOk_writeSc v s
  case boot => simp only [ioWriteReg]; split <;> exact h
  all_goals exact h

theorem dmaOk_memWrite (a : Word) (v : Byte) {s : State} (h : DmaOk s) : DmaOk (memWrite a v s) :=
  memWrite_induct h (fun _ _ => h) (fun _ _ _ ht => ht) (fun _ => h) (fun v r => dmaOk_ioWriteReg v r h)
    (fun hmode _ _ => ⟨hmode, Nat.zero_lt_succ 159⟩) a v

theorem serialOk_memWrite (a : Word) (v : Byte) {s : State} (h : SerialOk s.serial) :
    SerialOk (memWrite a v s).serial :=
  memWrite_induct (P := fun t => SerialOk t.serial) h (fun _ _ => h) (fun _ _ _ ht => ht) (fun _ => h)
    (fun v r => serialOk_ioWriteReg v r h) (fun _ _ => h) a v

theorem busOk_memWrite (a : Word) (v : Byte) (s : State) (h : BusOk s) : BusOk (memWrite a v s) where
  mem := memOk_memWrite a v h.mem
  boot := by rw [memWrite_cfg]; exact h.boot
  ppu := ppuOk_memWrite a v h.ppu
  dma := dmaOk_memWrite a v h.dma
  serial := serialOk_memWrite a v h.serial

/-! ### An instruction keeps both parts -/

section
variable {as : List Word} {s t : State}

theorem OnlyStores.busOk (h : OnlyStores as s t) (hs : BusOk s) : BusOk t := by
  obtain ⟨⟨ws, -, ht⟩, -, -⟩ := h
  rw [ht]
  exact (storeAll_induct busOk_memWrite ws hs).congr rfl rfl rfl rfl rfl

theorem OnlyStores.controlOk (h : OnlyStores as s t) (hs : ControlOk s) : ControlOk t := by
  obtain ⟨⟨ws, -, ht⟩, hmode, hbug⟩ := h
  have hsame := sameCore_storeAll ws s
  refine hs.congr hmode hbug ?_ ?_
  · rw [ht]; exact hsame.diagnostic
  · rw [ht]; exact hsame.cfg

/-- `HALT` leaves the halt bug waiting only in a running CPU and where it is modelled (45_system R392). -/
theorem controlOk_halt {n : Nat} (hrun : s.cpu.mode = .running) (hbug : s.cpu.haltBug = false) (hs : ControlOk s)
    (h : halt n s = .next t) : ControlOk t := by
  have hdiag := hs.diagnostic_eq_none (hrun.trans_ne nofun)
  unfold halt at h
  split at h
  · rw [done_inj h]
    exact controlOk_of_unlocked hbug nofun hdiag
  · split at h
    · rename_i hcfg
      rw [done_inj h]
      exact ⟨fun _ => ⟨hrun, hcfg⟩, hs.locked⟩
    · rw [done_inj h]
      exact hs.congr rfl rfl rfl rfl

theorem controlOk_stop {n : Nat} (hrun : s.cpu.mode = .running) (hbug : s.cpu.haltBug = false) (hs : ControlOk s)
    (h : stop n s = .next t) : ControlOk t := by
  have hdiag := hs.diagnostic_eq_none (hrun.trans_ne nofun)
  unfold stop at h
  split at h
  · rw [done_inj h]
    exact controlOk_of_unlocked hbug nofun hdiag
  · rw [done_inj h]
    exact controlOk_of_locked hbug rfl rfl

theorem controlOk_undefinedOpcode {op : Byte} {n : Nat} (hbug : s.cpu.haltBug = false) (hs : ControlOk s)
    (h : undefinedOpcode op n s = .next t) : ControlOk t := by
  unfold undefinedOpcode at h
  split at h
  · rw [done_inj h]
    exact controlOk_of_locked hbug rfl rfl
  · rw [done_inj h]
    exact hs.congr rfl rfl rfl rfl

/-- An instruction of a running CPU whose fetch has used up the halt bug. -/
theorem inv_exec {i : Instr} (hrun : s.cpu.mode = .running) (hbug : s.cpu.haltBug = false) (hs : State.Inv s)
    (h : exec i s = .next t) : State.Inv t := by
  obtain ⟨hbus, hcontrol⟩ := (inv_iff s).mp hs
  refine (inv_iff t).mpr ?_
  rcases exec_cases h with hstores | ⟨-, h⟩ | ⟨n, -, h⟩ | ⟨p, -, -, h⟩
  · exact ⟨hstores.busOk hbus, hstores.controlOk hcontrol⟩
  · refine ⟨?_, controlOk_halt hrun hbug hcontrol h⟩
    rw [halt_frame h]
    exact hbus.congr rfl rfl rfl rfl rfl
  · refine ⟨?_, controlOk_stop hrun hbug hcontrol h⟩
    rw [(stop_frame h).1]
    exact hbus.congr rfl rfl rfl rfl rfl
  · refine ⟨?_, controlOk_undefinedOpcode hbug hcontrol h⟩
    rw [undefinedOpcode_frame h]
    exact hbus.congr rfl rfl rfl rfl rfl

end

/-! ### The other parts of a step -/

theorem inv_setButton (ev : ButtonEvent) (s : State) (h : State.Inv s) : State.Inv (setButton ev s) := by
  obtain ⟨hbus, hcontrol⟩ := (inv_iff s).mp h
  have hframe := setButton_frame ev s
  have hmode := setButton_mode ev s
  generalize setButton ev s = t at hframe hmode
  have hbug : t.cpu.haltBug = s.cpu.haltBug := by rw [hframe]
  have hdiag : t.diagnostic = s.diagnostic := by rw [hframe]
  have hcfg : t.cfg = s.cfg := by rw [hframe]
  refine (inv_iff t).mpr ⟨by rw [hframe]; exact hbus.congr rfl rfl rfl rfl rfl, ?_⟩
  rcases hmode with hkept | ⟨hstopped, hrun⟩
  · exact hcontrol.congr hkept hbug hdiag hcfg
  · exact controlOk_of_unlocked (hbug.trans (hcontrol.haltBug_eq_false (hstopped.trans_ne nofun)))
      (hrun.trans_ne nofun) (hdiag.trans (hcontrol.diagnostic_eq_none (hstopped.trans_ne nofun)))

theorem inv_hostPhase {s : State} (h : State.Inv s) : State.Inv (hostPhase s) := by
  refine hostPhase_induct inv_setButton (fun t q ht => ?_) s h
  obtain ⟨hbus, hcontrol⟩ := (inv_iff t).mp ht
  exact (inv_iff _).mpr ⟨hbus.congr rfl rfl rfl rfl rfl, hcontrol.congr rfl rfl rfl rfl⟩

/-- The CPU woken or still running. -/
theorem inv_running {s : State} (h : State.Inv s) (hmode : s.cpu.mode = .running ∨ s.cpu.mode = .halted) :
    State.Inv (onCpu (fun k => { k with mode := .running }) s) := by
  obtain ⟨hbus, hcontrol⟩ := (inv_iff s).mp h
  have hunlocked : s.cpu.mode ≠ .locked := by rcases hmode with hm | hm <;> rw [hm] <;> nofun
  have hdiag := hcontrol.diagnostic_eq_none hunlocked
  refine (inv_iff _).mpr ⟨hbus.congr rfl rfl rfl rfl rfl, fun hbug => ⟨rfl, (hcontrol.haltBug hbug).2⟩, ?_⟩
  simp [hdiag]

/-- An interrupt entry leaves no halt bug and the mode as it was (60_exceptions R430). -/
theorem inv_serviceInterrupt {s : State} (h : State.Inv s) (hrun : s.cpu.mode = .running) :
    State.Inv (serviceInterrupt s) := by
  obtain ⟨hbus, hcontrol⟩ := (inv_iff s).mp h
  have hdiag := hcontrol.diagnostic_eq_none (hrun.trans_ne nofun)
  have hstart : ControlOk (onCpu (fun k => { k with haltBug := false }) s) :=
    controlOk_of_unlocked rfl (hrun.trans_ne nofun) hdiag
  have hpush := OnlyStores.push16 (if s.cpu.haltBug then s.cpu.pc - 1 else s.cpu.pc)
    (onCpu (fun k => { k with haltBug := false }) s)
  have hpushBus := hpush.busOk (hbus.congr rfl rfl rfl rfl rfl)
  have hpushControl := hpush.controlOk hstart
  rw [inv_iff, serviceInterrupt_eq]
  dsimp only
  split <;> exact ⟨hpushBus.congr rfl rfl rfl rfl rfl, hpushControl.congr rfl rfl rfl rfl⟩

/-- The opcode's fetch uses up the halt bug, which holds the pc (45_system R393). -/
theorem fetchOpcode_snd (s : State) :
    (fetchOpcode s).2 =
      onCpu (fun k => { k with pc := if k.haltBug then k.pc else k.pc + 1, haltBug := false }) s := by
  cases hbug : s.cpu.haltBug <;> simp [fetchOpcode, onCpu, hbug]

/-- A fetch moves the pc and uses up the halt bug. -/
theorem fetchInstr_snd (s : State) :
    (fetchInstr s).2 = onCpu (fun k => { k with pc := (fetchInstr s).2.cpu.pc, haltBug := false }) s := by
  unfold fetchInstr
  dsimp only
  split <;> rw [fetchOpcode_snd] <;> rfl

theorem fetchInstr_mode (s : State) : (fetchInstr s).2.cpu.mode = s.cpu.mode := by rw [fetchInstr_snd]; rfl

theorem fetchInstr_haltBug (s : State) : (fetchInstr s).2.cpu.haltBug = false := by rw [fetchInstr_snd]; rfl

theorem inv_fetchInstr {s : State} (h : State.Inv s) : State.Inv (fetchInstr s).2 := by
  obtain ⟨hbus, hcontrol⟩ := (inv_iff s).mp h
  rw [inv_iff, fetchInstr_snd]
  exact ⟨hbus.congr rfl rfl rfl rfl rfl, nofun, hcontrol.locked⟩

theorem inv_advanceEiDelay {s : State} (h : State.Inv s) : State.Inv (advanceEiDelay s) := by
  obtain ⟨hbus, hcontrol⟩ := (inv_iff s).mp h
  rw [inv_iff, advanceEiDelay_eq]
  split_ifs <;> exact ⟨hbus.congr rfl rfl rfl rfl rfl, hcontrol.congr rfl rfl rfl rfl⟩

/-- The devices keep the bus part, each its own, and leave the control part alone. -/
theorem inv_runDevices {s : State} (h : State.Inv s) : State.Inv (runDevices s) := by
  obtain ⟨hbus, hcontrol⟩ := (inv_iff s).mp h
  have hframe := devicesFrame_runDevices s
  obtain ⟨hmem, hdma⟩ := memOk_runDevices hbus.mem hbus.dma
  have hserial : SerialOk (runDevices s).serial :=
    runDevices_induct (P := fun t => SerialOk t.serial) (fun t ht => by simpa using ht) (fun t ht => by simpa using ht)
      (fun t ht => by simpa using ht) (fun _ _ ht => ht) s hbus.serial
  refine (inv_iff _).mpr ⟨⟨hmem, ?_, ppuOk_runDevices hbus.ppu, hdma, hserial⟩, ?_⟩
  · rw [hframe.cfg]
    exact hbus.boot
  · exact hcontrol.congr (congrArg Cpu.mode hframe.cpu) (congrArg Cpu.haltBug hframe.cpu) hframe.diagnostic hframe.cfg

theorem inv_idle {s : State} (h : State.Inv s) : State.Inv { s with elapsed := 1 } := by
  obtain ⟨hbus, hcontrol⟩ := (inv_iff s).mp h
  exact (inv_iff _).mpr ⟨hbus.congr rfl rfl rfl rfl rfl, hcontrol.congr rfl rfl rfl rfl⟩

/-- Settles O11: the parts of a step in order, each keeping the invariant. -/
theorem stepKeepsInvariant : Obligations.StepKeepsInvariant := by
  unfold Obligations.StepKeepsInvariant
  intro s t hs hstep
  have hhost := inv_hostPhase hs
  unfold step at hstep
  generalize hostPhase s = b at hhost hstep
  rcases beginStep_cases b with ⟨hbegin, -⟩ | ⟨hbegin, hmode, -, -⟩ | ⟨hbegin, hmode, -⟩ <;>
    rw [hbegin] at hstep <;> dsimp only at hstep
  · rw [← Host.Outcome.next.inj hstep]
    exact inv_runDevices (inv_idle hhost)
  · rw [← Host.Outcome.next.inj hstep]
    exact inv_runDevices (inv_serviceInterrupt (inv_running hhost hmode) rfl)
  · have hfetch := inv_fetchInstr (inv_running hhost (hmode.imp_right And.left))
    split at hstep
    · rename_i u hexec
      rw [← Host.Outcome.next.inj hstep]
      exact inv_runDevices (inv_advanceEiDelay (inv_exec (fetchInstr_mode _) (fetchInstr_haltBug _) hfetch hexec))
    · exact nomatch hstep
    · exact nomatch hstep

end Sys2Proof.Proofs
end

section
/-! PROOFS. The decoder and the encoder undo one another (30_encoding R130-R143). -/

namespace Sys2Proof.Proofs
open Sys2Proof.Machine

/-! ### From an instruction to its bytes and back -/

section
open Laws Laws.RoundTrip

/-- Every instruction has its round trip: the laws of the 512 rows, in the order of the constructors. -/
theorem roundTrip (i : Instr) : RoundTrip.Statement i :=
  @Instr.rec RoundTrip.Statement
    ld_bc_nn ld_b_n ld_at_nn_sp ld_c_n stop ld_de_nn ld_d_n jr_e ld_e_n jr_nz_e ld_hl_nn ld_h_n jr_z_e ld_l_n
    jr_nc_e ld_sp_nn ld_at_hl_n jr_c_e ld_a_n jp_nz_nn jp_nn call_nz_nn add_a_n jp_z_nn cb_prefix call_z_nn
    call_nn adc_a_n jp_nc_nn call_nc_nn sub_n jp_c_nn call_c_nn sbc_a_n ldh_at_n_a and_n add_sp_e ld_at_nn_a xor_n
    ldh_a_at_n or_n ld_hl_sp_e ld_a_at_nn cp_n nop ld_at_bc_a inc_bc inc_b dec_b rlca add_hl_bc ld_a_at_bc dec_bc
    inc_c dec_c rrca ld_at_de_a inc_de inc_d dec_d rla add_hl_de ld_a_at_de dec_de inc_e dec_e rra ld_at_hli_a
    inc_hl inc_h dec_h daa add_hl_hl ld_a_at_hli dec_hl inc_l dec_l cpl ld_at_hld_a inc_sp inc_at_hl dec_at_hl scf
    add_hl_sp ld_a_at_hld dec_sp inc_a dec_a ccf ld_b_b ld_b_c ld_b_d ld_b_e ld_b_h ld_b_l ld_b_at_hl ld_b_a
    ld_c_b ld_c_c ld_c_d ld_c_e ld_c_h ld_c_l ld_c_at_hl ld_c_a ld_d_b ld_d_c ld_d_d ld_d_e ld_d_h ld_d_l
    ld_d_at_hl ld_d_a ld_e_b ld_e_c ld_e_d ld_e_e ld_e_h ld_e_l ld_e_at_hl ld_e_a ld_h_b ld_h_c ld_h_d ld_h_e
    ld_h_h ld_h_l ld_h_at_hl ld_h_a ld_l_b ld_l_c ld_l_d ld_l_e ld_l_h ld_l_l ld_l_at_hl ld_l_a ld_at_hl_b
    ld_at_hl_c ld_at_hl_d ld_at_hl_e ld_at_hl_h ld_at_hl_l halt ld_at_hl_a ld_a_b ld_a_c ld_a_d ld_a_e ld_a_h
    ld_a_l ld_a_at_hl ld_a_a add_a_b add_a_c add_a_d add_a_e add_a_h add_a_l add_a_at_hl add_a_a adc_a_b adc_a_c
    adc_a_d adc_a_e adc_a_h adc_a_l adc_a_at_hl adc_a_a sub_b sub_c sub_d sub_e sub_h sub_l sub_at_hl sub_a
    sbc_a_b sbc_a_c sbc_a_d sbc_a_e sbc_a_h sbc_a_l sbc_a_at_hl sbc_a_a and_b and_c and_d and_e and_h and_l
    and_at_hl and_a xor_b xor_c xor_d xor_e xor_h xor_l xor_at_hl xor_a or_b or_c or_d or_e or_h or_l or_at_hl
    or_a cp_b cp_c cp_d cp_e cp_h cp_l cp_at_hl cp_a ret_nz pop_bc push_bc rst_00 ret_z ret rst_08 ret_nc pop_de
    undefined_d3 push_de rst_10 ret_c reti undefined_db undefined_dd rst_18 pop_hl ld_at_c_a undefined_e3
    undefined_e4 push_hl rst_20 jp_hl undefined_eb undefined_ec undefined_ed rst_28 pop_af ld_a_at_c di
    undefined_f4 push_af rst_30 ld_sp_hl ei undefined_fc undefined_fd rst_38 rlc_b rlc_c rlc_d rlc_e rlc_h rlc_l
    rlc_at_hl rlc_a rrc_b rrc_c rrc_d rrc_e rrc_h rrc_l rrc_at_hl rrc_a rl_b rl_c rl_d rl_e rl_h rl_l rl_at_hl
    rl_a rr_b rr_c rr_d rr_e rr_h rr_l rr_at_hl rr_a sla_b sla_c sla_d sla_e sla_h sla_l sla_at_hl sla_a sra_b
    sra_c sra_d sra_e sra_h sra_l sra_at_hl sra_a swap_b swap_c swap_d swap_e swap_h swap_l swap_at_hl swap_a
    srl_b srl_c srl_d srl_e srl_h srl_l srl_at_hl srl_a bit_0_b bit_0_c bit_0_d bit_0_e bit_0_h bit_0_l
    bit_0_at_hl bit_0_a bit_1_b bit_1_c bit_1_d bit_1_e bit_1_h bit_1_l bit_1_at_hl bit_1_a bit_2_b bit_2_c
    bit_2_d bit_2_e bit_2_h bit_2_l bit_2_at_hl bit_2_a bit_3_b bit_3_c bit_3_d bit_3_e bit_3_h bit_3_l
    bit_3_at_hl bit_3_a bit_4_b bit_4_c bit_4_d bit_4_e bit_4_h bit_4_l bit_4_at_hl bit_4_a bit_5_b bit_5_c
    bit_5_d bit_5_e bit_5_h bit_5_l bit_5_at_hl bit_5_a bit_6_b bit_6_c bit_6_d bit_6_e bit_6_h bit_6_l
    bit_6_at_hl bit_6_a bit_7_b bit_7_c bit_7_d bit_7_e bit_7_h bit_7_l bit_7_at_hl bit_7_a res_0_b res_0_c
    res_0_d res_0_e res_0_h res_0_l res_0_at_hl res_0_a res_1_b res_1_c res_1_d res_1_e res_1_h res_1_l
    res_1_at_hl res_1_a res_2_b res_2_c res_2_d res_2_e res_2_h res_2_l res_2_at_hl res_2_a res_3_b res_3_c
    res_3_d res_3_e res_3_h res_3_l res_3_at_hl res_3_a res_4_b res_4_c res_4_d res_4_e res_4_h res_4_l
    res_4_at_hl res_4_a res_5_b res_5_c res_5_d res_5_e res_5_h res_5_l res_5_at_hl res_5_a res_6_b res_6_c
    res_6_d res_6_e res_6_h res_6_l res_6_at_hl res_6_a res_7_b res_7_c res_7_d res_7_e res_7_h res_7_l
    res_7_at_hl res_7_a set_0_b set_0_c set_0_d set_0_e set_0_h set_0_l set_0_at_hl set_0_a set_1_b set_1_c
    set_1_d set_1_e set_1_h set_1_l set_1_at_hl set_1_a set_2_b set_2_c set_2_d set_2_e set_2_h set_2_l
    set_2_at_hl set_2_a set_3_b set_3_c set_3_d set_3_e set_3_h set_3_l set_3_at_hl set_3_a set_4_b set_4_c
    set_4_d set_4_e set_4_h set_4_l set_4_at_hl set_4_a set_5_b set_5_c set_5_d set_5_e set_5_h set_5_l
    set_5_at_hl set_5_a set_6_b set_6_c set_6_d set_6_e set_6_h set_6_l set_6_at_hl set_6_a set_7_b set_7_c
    set_7_d set_7_e set_7_h set_7_l set_7_at_hl set_7_a i

end

/-- Settles O1, by the rows' round trips. -/
theorem encodeThenDecode : Obligations.EncodeThenDecode := fun i rest hi => roundTrip i hi rest

/-- Settles O3: each word is the encoding of the instruction the spec gives for it. -/
theorem specWordsDecode : Obligations.SpecWordsDecode := by
  have decodes (i : Instr) (hi : i.wellFormed = true) : decode (encode i) = .ok (i, []) := by
    simpa using encodeThenDecode i [] hi
  exact ⟨decodes .nop rfl, decodes (.ld_b_n 0x42) rfl, decodes (.ld_a_n 0x00) rfl, decodes (.jp_z_nn 0x0200) rfl,
    decodes (.ld_sp_nn 0xFFFE) rfl, decodes (.ld_at_nn_sp 0xC100) rfl, decodes (.ldh_at_n_a 0x46) rfl,
    decodes .adc_a_e rfl, decodes .sbc_a_h rfl, decodes (.add_sp_e 0x02) rfl, decodes .rl_l rfl,
    decodes .set_7_at_hl rfl, decodes (.jr_nz_e 0xFE) rfl, decodes (.call_nn 0x2000) rfl, decodes .rst_28 rfl,
    decodes (.stop 0x00) rfl, decodes .undefined_d3 rfl⟩

/-! ### From bytes to an instruction and back -/

theorem instrLength_cases (op : Byte) : instrLength op = 1 ∨ instrLength op = 2 ∨ instrLength op = 3 := by
  unfold instrLength
  split_ifs <;> simp

/-- The decoder takes as many bytes as the first one calls for (R130), and gives `decodeBytes` of them. -/
theorem decode_cons_eq_ok {op : Byte} {more rest : List Byte} {i : Instr} (h : decode (op :: more) = .ok (i, rest)) :
    ∃ b1 b2, i = decodeBytes op b1 b2 ∧ op :: more = [op, b1, b2].take (instrLength op) ++ rest := by
  simp only [decode] at h
  split at h <;> rename_i hlen <;> cases h
  · exact ⟨0, 0, rfl, by simp [hlen]⟩
  · exact ⟨_, 0, rfl, by simp [hlen]⟩
  · exact ⟨_, _, rfl, by simp [hlen]⟩

/-- The base map (R131, R138): the immediates are those of a word, so each of the 256 rows gives its bytes back. -/
theorem encode_decodeBase (op b1 b2 : Byte) : encode (decodeBase op b1 b2) = [op, b1, b2].take (instrLength op) := by
  obtain ⟨nn, rfl, rfl⟩ : ∃ nn, b1 = loByte nn ∧ b2 = hiByte nn := ⟨word b2 b1, by simp⟩
  obtain ⟨n, hn, rfl⟩ : ∃ n < 256, op = byteOf n := ⟨op.toNat, op.isLt, by simp [byteOf]⟩
  rw [decodeBase, word_hiByte_loByte]
  interval_cases n <;> rfl

/-- The CB map gives the bytes of the row `cb_prefix` it goes on from (R141). -/
theorem encode_decodeBytes (op b1 b2 : Byte) :
    encode (decodeBytes op b1 b2) = [op, b1, b2].take (instrLength op) := by
  rw [← encode_decodeBase]
  unfold decodeBytes
  split
  · rename_i hprefix
    rw [encode_decodeCb, hprefix]
  · rfl

theorem wellFormed_of_ne_cb_prefix {i : Instr} (h : ∀ c, i ≠ .cb_prefix c) : i.wellFormed = true := by
  unfold Instr.wellFormed Instr.isPrefix
  split
  · exact absurd rfl (h _)
  · rfl

theorem wellFormed_decodeCb (c : Byte) : (decodeCb c).wellFormed = true := by
  revert c
  decide

theorem wellFormed_decodeBytes (op b1 b2 : Byte) : (decodeBytes op b1 b2).wellFormed = true := by
  unfold decodeBytes
  split
  · exact wellFormed_decodeCb _
  · exact wellFormed_of_ne_cb_prefix ‹_›

/-- Settles O2: what decodes is `decodeBytes` of the bytes taken, and these are its encoding. -/
theorem decodeThenEncode : Obligations.DecodeThenEncode := by
  intro op more rest i h
  obtain ⟨b1, b2, rfl, hbytes⟩ := decode_cons_eq_ok h
  rw [encode_decodeBytes]
  refine ⟨wellFormed_decodeBytes op b1 b2, hbytes, ?_⟩
  rcases instrLength_cases op with hlen | hlen | hlen <;> simp [hlen]

/-! ### The undefined opcodes (R140) -/

theorem wellFormed_undefined {p : Byte × Instr} (hp : p ∈ undefinedRows) : p.2.wellFormed = true := by
  revert p
  decide

theorem head?_encode_decodeBytes (op b1 b2 : Byte) : (encode (decodeBytes op b1 b2)).head? = some op := by
  rw [encode_decodeBytes]
  rcases instrLength_cases op with hlen | hlen | hlen <;> simp [hlen]

/-- Settles O4: an undefined row is its one byte, so its round trip decodes it, and what decodes to it begins with that
byte. -/
theorem undefinedOpcodes : Obligations.UndefinedOpcodes := by
  refine ⟨rfl, fun p hp rest => ?_, fun op b1 b2 hop hmem => hop ?_⟩
  · simpa [encode_undefined hp] using encodeThenDecode p.2 rest (wellFormed_undefined hp)
  · obtain ⟨p, hp, hrow⟩ := List.mem_map.mp hmem
    have hhead : some p.1 = some op := by
      rw [← head?_encode_decodeBytes op b1 b2, ← hrow, encode_undefined hp, List.head?_cons]
    exact List.mem_map.mpr ⟨p, hp, Option.some.inj hhead⟩

end Sys2Proof.Proofs
end

section
/-! PROOFS. The loads and the stack (40_loads R170-R194), and what a push leaves for the pop or the return after it
(44_control R356, R358, R361). -/

namespace Sys2Proof.Proofs
open Sys2Proof.Machine

/-! ### The forms of a load (40_loads R169, R170) -/

/-- `(HL)` is code 6 of the register field (30_encoding R132). -/
theorem encode_ldRegAtHl (r : Reg8) : encode (instrLd (.reg r) .atHl) = [byteOf (0x46 + 8 * r.code)] := by
  rw [encode_instrLd_reg]
  exact congrArg (fun k => [byteOf k]) (Nat.add_right_comm 0x40 (8 * r.code) 6)

/-- The I/O page's address: `0xFF00` plus the low byte. -/
theorem word_ioPage (n : Byte) : word 0xFF n = BitVec.ofNat 16 (0xFF00 + n.toNat) := by
  have := n.isLt
  apply BitVec.eq_of_toNat_eq
  rw [word_toNat, BitVec.toNat_ofNat, Nat.mod_eq_of_lt (by omega)]
  rfl

/-- A load into `A`: the byte at the mode's address, and the mode's change of `HL`. -/
theorem exec_loadAInstr_next (m : Addressing) (s : State) :
    exec (loadAInstr m) s =
      .next
        { s with
          cpu := { afterAddressing m s.cpu with a := memRead s (effectiveAddress s m) }, elapsed := m.cycles } := by
  rw [exec_loadAInstr]
  cases m <;> rfl

/-- A store of `A`: the one write at the mode's address, and the mode's change of `HL`. -/
theorem exec_storeAInstr_next (m : Addressing) (s : State) :
    exec (storeAInstr m) s =
      .next
        { memWrite (effectiveAddress s m) s.cpu.a s with cpu := afterAddressing m s.cpu, elapsed := m.cycles } := by
  rw [exec_storeAInstr, storeA, done, onCpu, memWrite_cpu]

/-! ### The stack pairs -/

/-- A push: two stores, and `SP` alone of the registers. -/
theorem pushPair_eq (p : StackPair) (n : Nat) (s : State) :
    pushPair p n s =
      .next
        { memWrite (s.cpu.sp - 2) (loByte (s.cpu.stackPair p))
            (memWrite (s.cpu.sp - 1) (hiByte (s.cpu.stackPair p)) s) with
          cpu := { s.cpu with sp := s.cpu.sp - 2 }, elapsed := n } := by
  rw [pushPair, push16_eq, done, onCpu, memWrite_cpu, memWrite_cpu]

/-- A pop: the pair from the word popped, and `SP`. -/
theorem popPair_eq (p : StackPair) (n : Nat) (s : State) :
    popPair p n s =
      .next { s with cpu := Cpu.setStackPair p (pop16 s).1 { s.cpu with sp := s.cpu.sp + 2 }, elapsed := n } := by
  have hpop : popPair p n s = done n (onCpu (Cpu.setStackPair p (pop16 s).1) (pop16 s).2) := rfl
  rw [hpop, pop16_snd]
  rfl

theorem ofByte_toByte (f : Flags) : Flags.ofByte f.toByte = f := by
  obtain ⟨z, n, h, c⟩ := f
  revert z n h c
  decide

/-- A pair written with its own value is unchanged: `AF`'s low nibble holds nothing (10_state R22). -/
theorem setStackPair_stackPair (p : StackPair) (k : Cpu) : Cpu.setStackPair p (k.stackPair p) k = k := by
  cases p with
  | bc => simp [Cpu.setStackPair, Cpu.stackPair, Cpu.setBc, Cpu.bc]
  | de => simp [Cpu.setStackPair, Cpu.stackPair, Cpu.setDe, Cpu.de]
  | hl => simp [Cpu.setStackPair, Cpu.stackPair, Cpu.setHl, Cpu.hl]
  | af => simp [Cpu.setStackPair, Cpu.stackPair, Cpu.setAf, Cpu.af, ofByte_toByte]

/-! ### A push read back -/

/-- Neighbouring addresses stand for different cells, across the echo's ends too (20_memory R88). -/
theorem cellOf_add_one_ne (a : Word) : cellOf (a + 1) ≠ cellOf a := by
  have hcell (b : Word) : (0xE000 ≤ b.toNat ∧ b.toNat ≤ 0xFDFF) ∧ cellOf b = b.toNat - 0x2000 ∨
      ¬(0xE000 ≤ b.toNat ∧ b.toNat ≤ 0xFDFF) ∧ cellOf b = b.toNat := by
    by_cases hecho : regionOf b = .echo
    · exact .inl ⟨regionOf_eq_iff.mp hecho, cellOf_of_echo hecho⟩
    · exact .inr ⟨fun h => hecho (regionOf_eq_iff.mpr h), cellOf_of_not_echo hecho⟩
  have hsucc : (a + 1).toNat = a.toNat + 1 ∨ a.toNat = 0xFFFF ∧ (a + 1).toNat = 0 := by bv_omega
  have := hcell a
  have := hcell (a + 1)
  omega

section
variable {s : State} (hhi : PlainStorage s (s.cpu.sp - 1)) (hlo : PlainStorage s (s.cpu.sp - 2))
include hhi hlo

/-- On plain storage a push is a store into two cells. -/
theorem push16_of_plainStorage (v : Word) :
    push16 v s =
      onCpu (fun k => { k with sp := k.sp - 2 })
        (pokeCell (cellOf (s.cpu.sp - 2)) (loByte v) (pokeCell (cellOf (s.cpu.sp - 1)) (hiByte v) s)) := by
  have hlo' : PlainStorage (pokeCell (cellOf (s.cpu.sp - 1)) (hiByte v) s) (s.cpu.sp - 2) := hlo
  rw [push16_eq, memWrite_of_plainStorage hhi, memWrite_of_plainStorage hlo']

/-- A pop reads the word pushed, whatever the registers but `SP` hold by then. -/
theorem pop16_push16 {v : Word} {t : State} (ht : t = { push16 v s with cpu := t.cpu, elapsed := t.elapsed })
    (hsp : t.cpu.sp = s.cpu.sp - 2) : (pop16 t).1 = v := by
  have hnext : s.cpu.sp - 2 + 1 = s.cpu.sp - 1 := by bv_omega
  have hcell : cellOf (s.cpu.sp - 1) ≠ cellOf (s.cpu.sp - 2) := hnext ▸ cellOf_add_one_ne (s.cpu.sp - 2)
  rw [push16_of_plainStorage hhi hlo] at ht
  have hmem : t.mem = (s.mem.set (cellOf (s.cpu.sp - 1)) (hiByte v)).set (cellOf (s.cpu.sp - 2)) (loByte v) :=
    congrArg State.mem ht
  have hgate (a : Word) : dmaGated t a = dmaGated s a := by rw [ht]; rfl
  have hreadHi : memRead t (s.cpu.sp - 1) = hiByte v := by
    rw [memRead_of_stored (stored_of_plainStorage hhi) ((hgate _).trans hhi.2), hmem, Memory.get_set_of_ne _ _ hcell,
      Memory.get_set_self]
  have hreadLo : memRead t (s.cpu.sp - 2) = loByte v := by
    rw [memRead_of_stored (stored_of_plainStorage hlo) ((hgate _).trans hlo.2), hmem, Memory.get_set_self]
  rw [pop16_fst, hsp, hnext, hreadHi, hreadLo, word_hiByte_loByte]

/-- `PUSH rr; POP rr`. -/
theorem popPair_pushPair (p : StackPair) (m n : Nat) :
    ∃ t u, pushPair p m s = .next t ∧ t.cpu.sp = s.cpu.sp - 2 ∧ popPair p n t = .next u ∧ u.cpu = s.cpu ∧
      u.mem = t.mem := by
  obtain ⟨t, ht⟩ : ∃ t, pushPair p m s = .next t := ⟨_, rfl⟩
  have hsp : t.cpu.sp = s.cpu.sp - 2 := congrArg Cpu.sp (pushPair_cpu ht)
  have hword : (pop16 t).1 = s.cpu.stackPair p := by
    refine pop16_push16 hhi hlo ?_ hsp
    rw [done_inj ht]
  refine ⟨t, _, ht, hsp, popPair_eq p n t, ?_, rfl⟩
  dsimp only
  rw [hword, hsp, BitVec.sub_add_cancel, pushPair_cpu ht, setStackPair_stackPair]

/-- A call, then `RET` at its target. -/
theorem ret_call (target : Word) (m n : Nat) :
    ∃ t u, call target m s = .next t ∧ t.cpu.pc = target ∧ t.cpu.sp = s.cpu.sp - 2 ∧ ret n t = .next u ∧
      u.cpu = s.cpu := by
  obtain ⟨t, ht⟩ : ∃ t, call target m s = .next t := ⟨_, rfl⟩
  obtain ⟨u, hu⟩ : ∃ u, ret n t = .next u := ⟨_, rfl⟩
  have hcpu := call_cpu ht
  have hsp : t.cpu.sp = s.cpu.sp - 2 := congrArg Cpu.sp hcpu
  have hword : (pop16 t).1 = s.cpu.pc := by
    refine pop16_push16 hhi hlo ?_ hsp
    rw [done_inj ht]
    rfl
  refine ⟨t, u, ht, congrArg Cpu.pc hcpu, hsp, hu, ?_⟩
  rw [ret_cpu hu, hword, hsp, BitVec.sub_add_cancel, hcpu]

end

/-! ### The statements -/

/-- Settles O28: what is pushed on plain storage is popped again, so the pair or the pc is as it was. -/
theorem stackRoundTrips : Obligations.StackRoundTrips := by
  intro s hhi hlo
  refine ⟨fun p => ?_, fun nn => ret_call hhi hlo nn 6 4, fun v => ?_⟩
  · simp only [exec_instrPush, exec_instrPop]
    exact popPair_pushPair hhi hlo p 4 3
  · rw [exec_instrRst]
    exact ret_call hhi hlo v.address 4 4

/-- Settles O29: each form is `load8` of its operands. -/
theorem loads8 : Obligations.Loads8 := fun s r q n =>
  ⟨encode_instrLd_reg r (.reg q), exec_instrLd_reg r (.reg q) s, encode_instrLdImm (.reg r) n,
    exec_instrLdImm (.reg r) n s, encode_ldRegAtHl r, exec_instrLd_reg r .atHl s, encode_instrLd_atHl q,
    exec_instrLd_atHl q s, encode_instrLdImm .atHl n, exec_instrLdImm .atHl n s⟩

/-- Settles O30: each form is the load or the store of its addressing mode. -/
theorem accumulatorLoadsAndStores : Obligations.AccumulatorLoadsAndStores := by
  intro s nn n
  have load (m : Addressing) := exec_loadAInstr_next m s
  have store (m : Addressing) := exec_storeAInstr_next m s
  simp only [← word_ioPage, ← loByte_eq_byteOf, ← hiByte_eq_byteOf]
  exact ⟨load .atBc, store .atBc, load .atDe, store .atDe, load (.absolute nn), store (.absolute nn),
    load (.ioPage n), store (.ioPage n), load .ioC, store .ioC, load .hlInc, store .hlInc, load .hlDec, store .hlDec,
    rfl, rfl, rfl, rfl, rfl, rfl, rfl, rfl, rfl, rfl, rfl, rfl, rfl, rfl⟩

/-- Settles O31: the bytes of the word are its low and its high half, in memory as in the encoding. -/
theorem loads16 : Obligations.Loads16 := by
  intro s p nn
  simp only [← loByte_eq_byteOf, ← hiByte_eq_byteOf]
  exact ⟨encode_instrLdPair p nn, exec_instrLdPair p nn s, rfl, rfl, rfl, rfl⟩

/-- Settles O32: `pushPair_eq`, and `popPair_eq` with the word split into its bytes. -/
theorem stackTransfers : Obligations.StackTransfers := by
  intro s p
  refine ⟨encode_instrPush p, (exec_instrPush p s).trans (pushPair_eq p 4 s), encode_instrPop p, ?_⟩
  rw [exec_instrPop, popPair_eq, pop16_fst]
  cases p with
  | bc => simp [Cpu.setStackPair, Cpu.setBc]
  | de => simp [Cpu.setStackPair, Cpu.setDe]
  | hl => simp [Cpu.setStackPair, Cpu.setHl]
  | af => simp [Cpu.setStackPair, Cpu.setAf, Flags.ofByte]

end Sys2Proof.Proofs
end

section
/-! PROOFS. The 8-bit arithmetic and logic (41_alu8 R230-R246) on unbounded integers, and the decimal meaning of `DAA`
after an addition and a subtraction. -/

namespace Sys2Proof.Proofs
open Sys2Proof.Machine

/-! ### From a result to the next state -/

/-- An ALU operation that writes `A` leaves its result and flags (41_alu8 R230). -/
theorem exec_aluInstr_next {op : AluOp} {src : Source8} {s : State} {v : Byte} {f : Flags}
    (hwrites : aluWritesA op = true) (hresult : aluResult op s.cpu.a (readSource s src) s.cpu.f.c = (v, f)) :
    exec (aluInstr op src) s = .next { s with cpu := { s.cpu with a := v, f := f }, elapsed := src.cycles } := by
  rw [exec_aluInstr, alu, hresult, hwrites]
  rfl

/-- `CP` leaves the flags of the subtraction alone (41_alu8 R235). -/
theorem exec_cp_next {src : Source8} {s : State} {v : Byte} {f : Flags}
    (hresult : subResult s.cpu.a (readSource s src) false = (v, f)) :
    exec (aluInstr .cp src) s = .next { s with cpu := { s.cpu with f := f }, elapsed := src.cycles } := by
  rw [exec_aluInstr, alu, aluResult, hresult]
  rfl

/-- `INC` of a register or of `(HL)` (41_alu8 R239, R240). -/
theorem exec_instrInc_next {o : Operand8} {s : State} {v : Byte} {f : Flags}
    (hresult : incResult (readOperand s o) s.cpu.f = (v, f)) :
    exec (instrInc o) s =
      .next { onCpu (fun k => { k with f := f }) (writeOperand o v s) with elapsed := o.cycles 1 3 } := by
  rw [exec_instrInc, inc8, hresult]
  rfl

/-- `DEC` of a register or of `(HL)` (41_alu8 R241, R242). -/
theorem exec_instrDec_next {o : Operand8} {s : State} {v : Byte} {f : Flags}
    (hresult : decResult (readOperand s o) s.cpu.f = (v, f)) :
    exec (instrDec o) s =
      .next { onCpu (fun k => { k with f := f }) (writeOperand o v s) with elapsed := o.cycles 1 3 } := by
  rw [exec_instrDec, dec8, hresult]
  rfl

/-- `DAA` (41_alu8 R243). -/
theorem exec_daa_next {s : State} {v : Byte} {f : Flags} (hresult : daaResult s.cpu.a s.cpu.f = (v, f)) :
    exec .daa s = .next { s with cpu := { s.cpu with a := v, f := f }, elapsed := 1 } := by
  have hdaa : exec .daa s = accumulator daaResult 1 s := rfl
  rw [hdaa, accumulator, hresult]
  rfl

/-! ### The results as numbers -/

theorem byteOf_eq_iff {m n : Nat} : byteOf m = byteOf n ↔ m % 256 = n % 256 := by
  rw [← BitVec.toNat_inj, byteOf_toNat, byteOf_toNat]

theorem byteOf_mod (n : Nat) : byteOf (n % 256) = byteOf n := byteOf_eq_iff.mpr (Nat.mod_mod n 256)

/-- With no borrow in, the difference is 0 for equal operands alone (41_alu8 R233, R235). -/
theorem subResult_false_eq (x y : Byte) :
    subResult x y false =
      (byteOf (x.toNat + 256 - y.toNat),
        ⟨decide (x.toNat = y.toNat), true, decide (x.toNat % 16 < y.toNat % 16), decide (x.toNat < y.toNat)⟩) := by
  have hx := x.isLt
  have hy := y.isLt
  have hbyte : byteOf (x.toNat + 512 - y.toNat) = byteOf (x.toNat + 256 - y.toNat) :=
    byteOf_eq_iff.mpr (by omega)
  have hzero : (x.toNat + 512 - y.toNat) % 256 = 0 ↔ x.toNat = y.toNat := by omega
  simp [subResult_eq, hbyte, hzero]

/-- `INC`: 255 alone wraps to 0 (41_alu8 R239). -/
theorem incResult_eq (old : Byte) (f : Flags) :
    incResult old f =
      (byteOf (old.toNat + 1), ⟨decide (old.toNat = 255), false, decide (old.toNat % 16 = 0xF), f.c⟩) := by
  have hold := old.isLt
  have hbyte : old + 1 = byteOf (old.toNat + 1) := BitVec.eq_of_toNat_eq (by simp [byteOf])
  have hzero : (old.toNat + 1) % 256 = 0 ↔ old.toNat = 255 := by omega
  simp only [incResult, hbyte, byte_beq_zero, byteOf_toNat, hzero]
  rfl

/-- `DEC`: 1 alone goes to 0 (41_alu8 R241). -/
theorem decResult_eq (old : Byte) (f : Flags) :
    decResult old f =
      (byteOf (old.toNat + 255), ⟨decide (old.toNat = 1), true, decide (old.toNat % 16 = 0x0), f.c⟩) := by
  have hold := old.isLt
  have hbyte : old - 1 = byteOf (old.toNat + 255) := BitVec.eq_of_toNat_eq (by simp [byteOf, Nat.add_comm])
  have hzero : (old.toNat + 255) % 256 = 0 ↔ old.toNat = 1 := by omega
  simp only [decResult, hbyte, byte_beq_zero, byteOf_toNat, hzero]
  rfl

theorem not_eq_byteOf (v : Byte) : ~~~v = byteOf (255 - v.toNat) := by
  have hv := v.isLt
  apply BitVec.eq_of_toNat_eq
  rw [BitVec.toNat_not, byteOf_toNat]
  omega

/-- The add branch of `DAA` adds `hi` and `lo`, both chosen by the first `A` (41_alu8 R243). -/
theorem daaResult_add_eq {a : Byte} {f : Flags} {hi lo : Nat} (hn : f.n = false)
    (hhi : hi = if f.c = true ∨ a.toNat > 0x99 then 0x60 else 0)
    (hlo : lo = if f.h = true ∨ a.toNat % 16 > 9 then 0x06 else 0) :
    daaResult a f =
      (byteOf (a.toNat + hi + lo),
        ⟨decide ((a.toNat + hi + lo) % 256 = 0), false, false, decide (f.c = true ∨ a.toNat > 0x99)⟩) := by
  have hbyte : (daaResult a f).1 = byteOf (a.toNat + hi + lo) := by
    have ha : a.toNat % 256 = a.toNat := Nat.mod_eq_of_lt a.isLt
    apply BitVec.eq_of_toNat_eq
    rw [hhi, hlo, byteOf_toNat]
    by_cases hhigh : f.c = true ∨ a.toNat > 0x99 <;> by_cases hlow : f.h = true ∨ a.toNat % 16 > 9 <;>
      simp [daaResult, lowNibble, hn, hhigh, hlow, ha]
  have hflags :
      (daaResult a f).2 = ⟨(daaResult a f).1 == 0, false, false, decide (f.c = true ∨ a.toNat > 0x99)⟩ := by
    simp [daaResult, hn]
  rw [← byteOf_toNat, ← byte_beq_zero, ← hbyte, ← hflags]

/-- The subtract branch takes `hi` and `lo` away and keeps C (41_alu8 R243). -/
theorem daaResult_sub_eq {a : Byte} {f : Flags} {hi lo : Nat} (hn : f.n = true)
    (hhi : hi = if f.c = true then 0x60 else 0) (hlo : lo = if f.h = true then 0x06 else 0) :
    daaResult a f =
      (byteOf (a.toNat + 512 - hi - lo), ⟨decide ((a.toNat + 512 - hi - lo) % 256 = 0), true, false, f.c⟩) := by
  have hbyte : (daaResult a f).1 = byteOf (a.toNat + 512 - hi - lo) := by
    apply BitVec.eq_of_toNat_eq
    simp only [daaResult, hn, hhi, hlo, byteOf_toNat]
    split_ifs <;> simp <;> omega
  have hflags : (daaResult a f).2 = ⟨(daaResult a f).1 == 0, true, false, f.c⟩ := by
    simp [daaResult, hn]
  rw [← byteOf_toNat, ← byte_beq_zero, ← hbyte, ← hflags]

/-! ### Two-digit decimals -/

/-- The last two decimal digits of a number, one to a nibble. -/
def bcd (n : Nat) : Nat := 16 * (n / 10 % 10) + n % 10

theorem bcd_lt (n : Nat) : bcd n < 256 := by
  unfold bcd
  omega

theorem byteOf_bcd_toNat (n : Nat) : (byteOf (bcd n)).toNat = bcd n := by
  rw [byteOf_toNat, Nat.mod_eq_of_lt (bcd_lt n)]

theorem bcd_mod_sixteen (n : Nat) : bcd n % 16 = n % 10 := by
  unfold bcd
  omega

theorem bcd_eq_zero_iff (n : Nat) : bcd n = 0 ↔ n % 100 = 0 := by
  unfold bcd
  omega

theorem bcd_of_digits {d1 d0 : Nat} (h1 : d1 ≤ 9) (h0 : d0 ≤ 9) : bcd (10 * d1 + d0) = 16 * d1 + d0 := by
  unfold bcd
  omega

/-- A tens digit weighs 6 more than in the number itself. -/
theorem bcd_of_le {n : Nat} (hn : n ≤ 99) : bcd n = n + 6 * (n / 10) := by
  unfold bcd
  omega

/-- A hundred has no digit of its own, which would weigh `0xA0`. -/
theorem bcd_add_hundreds {n : Nat} (hn : n ≤ 199) : bcd n + (if n > 99 then 0xA0 else 0) = n + 6 * (n / 10) := by
  unfold bcd
  split_ifs <;> omega

/-- The test for the low adjustment after `ADD` is the carry into the tens. -/
theorem bcd_add_low_iff (x y : Nat) :
    (x % 10 + y % 10 > 0xF ∨ (bcd x + bcd y) % 256 % 16 > 9) ↔ x % 10 + y % 10 > 9 := by
  have hx0 := bcd_mod_sixteen x
  have hy0 := bcd_mod_sixteen y
  omega

section
variable {x y : Nat} (hx : x ≤ 99) (hy : y ≤ 99)
include hx hy

/-- The two adjustments make the byte `ADD` leaves the form of the decimal sum: `0x06` where the digits carry into the
tens, `0x60` where they carry into the hundreds. -/
theorem bcd_add :
    ((bcd x + bcd y) % 256 + (if x + y > 99 then 0x60 else 0) + (if x % 10 + y % 10 > 9 then 0x06 else 0)) % 256 =
      bcd (x + y) := by
  have htens : (x + y) / 10 = x / 10 + y / 10 + if x % 10 + y % 10 > 9 then 1 else 0 := by split_ifs <;> omega
  have hsum := bcd_add_hundreds (n := x + y) (by omega)
  have hlt := bcd_lt (x + y)
  rw [bcd_of_le hx, bcd_of_le hy]
  split_ifs at * <;> omega

/-- And the byte `SUB` leaves the form of the decimal difference, by the borrows from the tens and from the hundreds. -/
theorem bcd_sub :
    ((bcd x + 256 - bcd y) % 256 + 512 - (if x < y then 0x60 else 0) - (if x % 10 < y % 10 then 0x06 else 0)) % 256 =
      bcd (x + 100 - y) := by
  have htens : (x + 100 - y) / 10 + (y / 10 + if x % 10 < y % 10 then 1 else 0) = x / 10 + 10 := by
    split_ifs <;> omega
  have hborrow : x + 100 - y > 99 ↔ ¬x < y := by omega
  have hdiff := bcd_add_hundreds (n := x + 100 - y) (by omega)
  have hlt := bcd_lt (x + 100 - y)
  rw [bcd_of_le hx, bcd_of_le hy]
  simp only [hborrow, ite_not] at hdiff
  split_ifs at * <;> omega

/-- The test for the high adjustment after `ADD` is the carry into the hundreds. -/
theorem bcd_add_high_iff : (bcd x + bcd y > 0xFF ∨ (bcd x + bcd y) % 256 > 0x99) ↔ x + y > 99 := by
  have hcarry : bcd x + bcd y > 0x99 ↔ x + y > 99 := by
    have htens := Nat.lt_or_ge (x / 10 + y / 10) 9
    rw [bcd_of_le hx, bcd_of_le hy]
    omega
  rw [← hcarry]
  omega

theorem bcd_lt_iff : bcd x < bcd y ↔ x < y := by
  rw [bcd_of_le hx, bcd_of_le hy]
  omega

/-- `DAA` after `ADD`: its tests are the decimal carries. -/
theorem daaResult_addResult_bcd {v : Byte} {f : Flags}
    (hsum : addResult (byteOf (bcd x)) (byteOf (bcd y)) false = (v, f)) :
    daaResult v f = (byteOf (bcd (x + y)), ⟨decide ((x + y) % 100 = 0), false, false, decide (x + y > 99)⟩) := by
  rw [addResult_eq] at hsum
  simp only [byteOf_bcd_toNat, bcd_mod_sixteen, Bool.toNat_false, Nat.add_zero] at hsum
  obtain ⟨rfl, rfl⟩ := hsum
  rw [daaResult_add_eq rfl rfl rfl]
  simp only [byteOf_toNat, decide_eq_true_eq, bcd_add_low_iff, bcd_add_high_iff hx hy, bcd_add hx hy, bcd_eq_zero_iff]
  rw [← byteOf_mod, bcd_add hx hy]

/-- `DAA` after `SUB`: H and C are the decimal borrows. -/
theorem daaResult_subResult_bcd {v : Byte} {f : Flags}
    (hdiff : subResult (byteOf (bcd x)) (byteOf (bcd y)) false = (v, f)) :
    daaResult v f = (byteOf (bcd (x + 100 - y)), ⟨decide (x = y), true, false, decide (x < y)⟩) := by
  have hzero : (x + 100 - y) % 100 = 0 ↔ x = y := by omega
  rw [subResult_false_eq] at hdiff
  simp only [byteOf_bcd_toNat, bcd_mod_sixteen] at hdiff
  obtain ⟨rfl, rfl⟩ := hdiff
  rw [daaResult_sub_eq rfl rfl rfl]
  simp only [byteOf_toNat, decide_eq_true_eq, bcd_lt_iff hx hy, bcd_sub hx hy, bcd_eq_zero_iff, hzero]
  rw [← byteOf_mod, bcd_sub hx hy]

end

/-! ### The statements -/

/-- Settles O38: operands and results are `bcd` of the decimal numbers, and `DAA` after `addResult` and
`subResult` gives that form. -/
theorem decimalArithmetic : Obligations.DecimalArithmetic := by
  intro s x1 x0 y1 y0 hx1 hx0 hy1 hy0 ha x y
  have hx : x ≤ 99 := by omega
  have hy : y ≤ 99 := by omega
  rw [← bcd_of_digits hx1 hx0] at ha
  rw [← bcd_of_digits hy1 hy0]
  constructor
  · have hadd : aluResult .add s.cpu.a (byteOf (bcd y)) s.cpu.f.c =
        addResult (byteOf (bcd x)) (byteOf (bcd y)) false := by
      rw [ha, aluResult]
    exact ⟨_, _, exec_aluInstr_next (src := .imm _) rfl hadd, exec_daa_next (daaResult_addResult_bcd hx hy rfl),
      rfl, rfl, rfl⟩
  · have hsub : aluResult .sub s.cpu.a (byteOf (bcd y)) s.cpu.f.c =
        subResult (byteOf (bcd x)) (byteOf (bcd y)) false := by
      rw [ha, aluResult]
    exact ⟨_, _, exec_aluInstr_next (src := .imm _) rfl hsub, exec_daa_next (daaResult_subResult_bcd hx hy rfl),
      rfl, rfl, rfl⟩

/-- Settles O33: both are `addResult_eq`, with no carry in or with C. -/
theorem addAndAdc : Obligations.AddAndAdc := by
  rintro s src x y c rfl rfl rfl
  exact ⟨encode_aluInstr .add src, encode_aluInstr .adc src, exec_aluInstr_next rfl (addResult_eq _ _ false),
    exec_aluInstr_next rfl (addResult_eq _ _ s.cpu.f.c)⟩

/-- Settles O34: `SUB` and `CP` are `subResult_false_eq`, `SBC` takes C away as well. -/
theorem subSbcAndCp : Obligations.SubSbcAndCp := by
  rintro s src x y c rfl rfl rfl
  exact ⟨encode_aluInstr .sub src, encode_aluInstr .sbc src, encode_aluInstr .cp src,
    exec_aluInstr_next rfl (subResult_false_eq _ _), exec_aluInstr_next rfl (subResult_eq _ _ s.cpu.f.c),
    exec_cp_next (subResult_false_eq _ _)⟩

/-- Settles O35: each is `logicResult` of the bitwise result. -/
theorem andXorOr : Obligations.AndXorOr := by
  rintro s src y rfl
  exact ⟨encode_aluInstr .and src, encode_aluInstr .xor src, encode_aluInstr .or src,
    exec_aluInstr_next (op := .and) rfl rfl, exec_aluInstr_next (op := .xor) rfl rfl,
    exec_aluInstr_next (op := .or) rfl rfl⟩

/-- Settles O36, by `incResult_eq` and `decResult_eq`. -/
theorem incAndDec8 : Obligations.IncAndDec8 := by
  rintro s o v rfl
  exact ⟨encode_instrInc o, encode_instrDec o, exec_instrInc_next (incResult_eq _ _),
    exec_instrDec_next (decResult_eq _ _)⟩

/-- Settles O37: the two branches of `DAA`, the complement as a number, and the two flag writers. -/
theorem daaCplScfCcf : Obligations.DaaCplScfCcf := by
  rintro s x hi lo rfl
  refine ⟨rfl, rfl, rfl, rfl, fun hn hhi hlo => exec_daa_next (daaResult_add_eq hn hhi hlo),
    fun hn hhi hlo => exec_daa_next (daaResult_sub_eq hn hhi hlo), ?_, rfl, rfl⟩
  rw [← not_eq_byteOf]
  rfl

end Sys2Proof.Proofs
end

section
/-! PROOFS. The 16-bit arithmetic (42_alu16 R280-R284) on unbounded integers. -/

namespace Sys2Proof.Proofs
open Sys2Proof.Machine

/-! ### From a result to the next state -/

/-- `INC rr` and `DEC rr` add a constant to the pair (42_alu16 R280, R281). -/
theorem addToPair_next {p : Pair} {delta v : Word} {n : Nat} {s : State} (hsum : s.cpu.pair p + delta = v) :
    addToPair p delta n s = .next { s with cpu := s.cpu.setPair p v, elapsed := n } := by
  rw [addToPair, ← hsum]
  rfl

/-- `ADD HL, rr` (42_alu16 R282). -/
theorem exec_instrAddHl_next {p : Pair} {s : State} {v : Word} {f : Flags}
    (hresult : addHlResult s.cpu.hl (s.cpu.pair p) s.cpu.f = (v, f)) :
    exec (instrAddHl p) s = .next { s with cpu := { s.cpu.setHl v with f := f }, elapsed := 2 } := by
  rw [exec_instrAddHl, addHl, hresult]
  rfl

/-- `ADD SP, e` (42_alu16 R283). -/
theorem exec_add_sp_e_next {d : Byte} {s : State} {v : Word} {f : Flags}
    (hresult : spOffsetResult s.cpu.sp d = (v, f)) :
    exec (.add_sp_e d) s = .next { s with cpu := { s.cpu with sp := v, f := f }, elapsed := 4 } := by
  have haddSp : exec (.add_sp_e d) s = addSp d 4 s := rfl
  rw [haddSp, addSp, hresult]
  rfl

/-- `LD HL, SP+e` (42_alu16 R284). -/
theorem exec_ld_hl_sp_e_next {d : Byte} {s : State} {v : Word} {f : Flags}
    (hresult : spOffsetResult s.cpu.sp d = (v, f)) :
    exec (.ld_hl_sp_e d) s = .next { s with cpu := { s.cpu.setHl v with f := f }, elapsed := 3 } := by
  have hload : exec (.ld_hl_sp_e d) s = loadHlSp d 3 s := rfl
  rw [hload, loadHlSp, hresult]
  rfl

/-! ### The results as numbers -/

theorem word_add_one (w : Word) : w + 1 = BitVec.ofNat 16 (w.toNat + 1) := BitVec.add_def ..

/-- Taking 1 away is adding 65535 modulo 65536 (42_alu16 R281). -/
theorem word_add_neg_one (w : Word) : w + -1 = BitVec.ofNat 16 (w.toNat + 65535) := BitVec.add_def ..

/-- `ADD HL, rr`: the carries are those of the unbounded sum, Z stays (42_alu16 R282). -/
theorem addHlResult_eq (x y : Word) (f : Flags) :
    addHlResult x y f =
      (BitVec.ofNat 16 (x.toNat + y.toNat),
        ⟨f.z, false, decide (x.toNat % 4096 + y.toNat % 4096 > 0x0FFF), decide (x.toNat + y.toNat > 0xFFFF)⟩) := by
  rw [addHlResult, BitVec.add_def]

/-- `SP + e`: the target takes the displacement as signed, the carries take its byte as unsigned (42_alu16 R283,
R284). -/
theorem spOffsetResult_eq {sp target : Word} {d : Byte}
    (htarget : (target.toNat : Int) = ((sp.toNat : Int) + d.toInt) % 65536) :
    spOffsetResult sp d =
      (target,
        ⟨false, false, decide (sp.toNat % 16 + d.toNat % 16 > 0x0F), decide (sp.toNat % 256 + d.toNat > 0xFF)⟩) := by
  have hnibble : sp.toNat % 256 % 16 = sp.toNat % 16 := Nat.mod_mod_of_dvd _ (by decide)
  rw [spOffsetResult, add_signExtend16 htarget, lowNibble, lowNibble, loByte_toNat, hnibble]

/-! ### The statements -/

/-- Settles O39: `INC rr` and `DEC rr` add 1 and 65535, `ADD HL, rr` is `addHlResult_eq`. -/
theorem pairArithmetic : Obligations.PairArithmetic := by
  rintro s p x v rfl rfl
  exact ⟨encode_instrIncPair p, encode_instrDecPair p, encode_instrAddHl p,
    (exec_instrIncPair p s).trans (addToPair_next (word_add_one _)),
    (exec_instrDecPair p s).trans (addToPair_next (word_add_neg_one _)),
    exec_instrAddHl_next (addHlResult_eq _ _ _)⟩

/-- Settles O40: both write `spOffsetResult_eq`, one to `SP` and one to `HL`. -/
theorem stackPointerOffset : Obligations.StackPointerOffset := by
  rintro s d f target rfl htarget
  have hresult := spOffsetResult_eq htarget
  exact ⟨rfl, rfl, exec_add_sp_e_next hresult, exec_ld_hl_sp_e_next hresult⟩

end Sys2Proof.Proofs
end

section
/-! PROOFS. The rotates, shifts and bit operations (43_rotate_shift_bit R300-R315): results and flags as numbers, masks
bit by bit. -/

namespace Sys2Proof.Proofs
open Sys2Proof.Machine

/-! ### Rotates and shifts -/

/-- `Z` of a CB rotate or shift is that of the number, which fits a byte (43 R305-R312). -/
theorem rotateFlags_byteOf {r : Nat} (hr : r < 256) (out : Bool) :
    rotateFlags (byteOf r) out = ⟨decide (r = 0), false, false, out⟩ := by
  rw [rotateFlags, byte_beq_zero, byteOf_toNat, Nat.mod_eq_of_lt hr]

/-- An accumulator rotate writes `A` and the carry, and Z 0 (43 R300-R303). -/
theorem rotateA_next (op : RotOp) (n : Nat) (s : State) :
    rotateA op n s =
      .next
        { s with
          cpu :=
            { s.cpu with
              a := byteOf (rotateValue op s.cpu.a.toNat s.cpu.f.c.toNat)
              f := ⟨false, false, false, rotateOut op s.cpu.a.toNat⟩ }
          elapsed := n } := by
  rw [rotateA, rotateResult_eq]
  rfl

/-- A CB rotate, shift or `SWAP` writes its operand back, then the flags (43 R305-R312). -/
theorem exec_instrRot_next {op : RotOp} {o : Operand8} {s : State} {v r : Nat} (hv : v = (readOperand s o).toNat)
    (hr : r = rotateValue op v s.cpu.f.c.toNat) :
    exec (instrRot op o) s =
      .next
        { onCpu (fun k => { k with f := ⟨decide (r = 0), false, false, rotateOut op v⟩ })
            (writeOperand o (byteOf r) s) with
          elapsed := o.cycles 2 4 } := by
  subst hv hr
  rw [exec_instrRot, rotate, rotateResult_eq, rotateFlags_byteOf (rotateValue_lt _ _ _)]
  rfl

/-! ### Bits -/

/-- A bit is 0 when its binary digit is (43 R313). -/
theorem not_getLsbD_eq (v : Byte) (n : Nat) : (!v.getLsbD n) = decide (v.toNat / 2 ^ n % 2 = 0) := by
  rw [BitVec.getLsbD, Nat.testBit_eq_decide_div_mod_eq, ← decide_not]
  exact decide_eq_decide.mpr Nat.mod_two_ne_one

theorem getLsbD_bitMask (b : BitIndex) (k : Nat) : (bitMask b).getLsbD k = decide (k = b.toNat) := by
  have hb : b.toNat < 8 := by cases b <;> decide
  have hmask : bitMask b = BitVec.twoPow 8 b.toNat := rfl
  simp [hmask, hb, eq_comm]

/-- `RES` clears the one bit (43 R314). -/
theorem getLsbD_and_not_bitMask (v : Byte) (b : BitIndex) {k : Nat} (hk : k < 8) :
    (v &&& ~~~bitMask b).getLsbD k = if k = b.toNat then false else v.getLsbD k := by
  rw [BitVec.getLsbD_and, BitVec.getLsbD_not, getLsbD_bitMask]
  split_ifs with hbit <;> simp [hbit, hk]

/-- `SET` sets the one bit (43 R315). -/
theorem getLsbD_or_bitMask (v : Byte) (b : BitIndex) (k : Nat) :
    (v ||| bitMask b).getLsbD k = if k = b.toNat then true else v.getLsbD k := by
  rw [BitVec.getLsbD_or, getLsbD_bitMask]
  split_ifs with hbit <;> simp [hbit]

/-- `BIT` leaves the inverted bit in Z and writes no operand (43 R313). -/
theorem exec_instrBit_next (b : BitIndex) (o : Operand8) (s : State) :
    exec (instrBit b o) s =
      .next
        { s with
          cpu :=
            { s.cpu with f := ⟨decide ((readOperand s o).toNat / 2 ^ b.toNat % 2 = 0), false, true, s.cpu.f.c⟩ }
          elapsed := o.cycles 2 3 } := by
  rw [exec_instrBit, ← not_getLsbD_eq]
  rfl

/-! ### The statements -/

/-- Settles O41: every form is `rotateResult_eq`, written to `A` with Z 0 or to the operand with Z from the result. -/
theorem rotatesAndShifts : Obligations.RotatesAndShifts := by
  rintro s op o v r c hv rfl hr
  exact ⟨rfl, rfl, rfl, rfl, rotateA_next .rlc 1 s, rotateA_next .rrc 1 s, rotateA_next .rl 1 s,
    rotateA_next .rr 1 s, encode_instrRot op o, exec_instrRot_next hv hr⟩

/-- Settles O42: the bytes `RES` and `SET` write are the operand with the bit's mask taken out and put in. -/
theorem bitOperations : Obligations.BitOperations := by
  rintro s b o v rfl
  exact ⟨encode_instrBit b o, encode_instrRes b o, encode_instrSet b o, exec_instrBit_next b o s,
    ⟨_, fun k hk => getLsbD_and_not_bitMask _ b hk, exec_instrRes b o s⟩,
    ⟨_, fun k _ => getLsbD_or_bitMask _ b k, exec_instrSet b o s⟩⟩

end Sys2Proof.Proofs
end

section
/-! PROOFS. The jumps, calls and returns (44_control R350-R361): the next state of each operation, taken and not. -/

namespace Sys2Proof.Proofs
open Sys2Proof.Machine

/-! ### From an operation to the next state -/

/-- The two ways of a conditional jump (44_control R352, R355). -/
theorem jumpIf_eq (cc : Cond) (target : Word) (n n' : Nat) (s : State) :
    jumpIf cc target n n' s =
      .next
        (if s.cpu.f.holds cc then { s with cpu := { s.cpu with pc := target }, elapsed := n }
        else { s with elapsed := n' }) :=
  (apply_ite Host.Outcome.next _ _ _).symm

/-- A call: the two stores of the push, high byte first, then the jump (44_control R356). -/
theorem call_eq (target : Word) (n : Nat) (s : State) :
    call target n s =
      .next
        { memWrite (s.cpu.sp - 2) (byteOf s.cpu.pc.toNat)
            (memWrite (s.cpu.sp - 1) (byteOf (s.cpu.pc.toNat / 256)) s) with
          cpu := { s.cpu with sp := s.cpu.sp - 2, pc := target }, elapsed := n } := by
  rw [call, push16_eq, loByte_eq_byteOf, hiByte_eq_byteOf, jump, done, onCpu_onCpu, onCpu, memWrite_cpu, memWrite_cpu]

/-- A call taken or not; not taken, it stores nothing (44_control R357). -/
theorem callIf_next {target : Word} {n : Nat} {s t : State} (h : call target n s = .next t) (cc : Cond) (n' : Nat) :
    callIf cc target n n' s = .next (if s.cpu.f.holds cc then t else { s with elapsed := n' }) := by
  rw [callIf, h]
  exact (apply_ite Host.Outcome.next _ _ _).symm

/-- A return taken or not (44_control R359). -/
theorem retIf_next {n : Nat} {s t : State} (h : ret n s = .next t) (cc : Cond) (n' : Nat) :
    retIf cc n n' s = .next (if s.cpu.f.holds cc then t else { s with elapsed := n' }) := by
  rw [retIf, h]
  exact (apply_ite Host.Outcome.next _ _ _).symm

section
variable {s : State} {target : Word}
  (htarget : target.toNat = 256 * (memRead s (s.cpu.sp + 1)).toNat + (memRead s s.cpu.sp).toNat)
include htarget

/-- The word a return pops, from its two bytes as a number (00_scope R14). -/
theorem returnTo_target : returnTo s = onCpu (fun k => { k with pc := target, sp := k.sp + 2 }) s := by
  have hword : word (memRead s (s.cpu.sp + 1)) (memRead s s.cpu.sp) = target := by
    rw [← BitVec.toNat_inj, word_toNat, htarget, Nat.mul_comm]
  rw [returnTo_eq, hword]

/-- `RET` (44_control R358). -/
theorem ret_next (n : Nat) :
    ret n s = .next { s with cpu := { s.cpu with pc := target, sp := s.cpu.sp + 2 }, elapsed := n } := by
  rw [ret, returnTo_target htarget]
  rfl

/-- `RETI` sets `IME` as well, and leaves the EI counter (44_control R360). -/
theorem reti_next (n : Nat) :
    reti n s =
      .next { s with cpu := { s.cpu with pc := target, sp := s.cpu.sp + 2, ime := true }, elapsed := n } := by
  rw [reti, returnFromInterrupt, returnTo_target htarget]
  rfl

end

/-! ### The statements -/

/-- Settles O43: each form is `jump` or `jumpIf`, a relative one to the pc plus the sign-extended displacement. -/
theorem jumps : Obligations.Jumps := by
  intro s nn target d cc htarget
  have hsum := add_signExtend16 htarget
  have hjr : exec (.jr_e d) s = jump target 3 s := by
    rw [← hsum]
    rfl
  have hjrCond : exec (instrJrCond cc d) s = jumpIf cc target 3 2 s := by
    rw [exec_instrJrCond, hsum]
  simp only [← loByte_eq_byteOf, ← hiByte_eq_byteOf]
  exact ⟨rfl, encode_instrJpCond cc nn, rfl, rfl, encode_instrJrCond cc d, rfl,
    (exec_instrJpCond cc nn s).trans (jumpIf_eq cc nn 4 3 s), rfl, hjr, hjrCond.trans (jumpIf_eq cc target 3 2 s)⟩

/-- Settles O44: each form is `call` or `callIf`, `RST` to its vector's address. -/
theorem callsAndRst : Obligations.CallsAndRst := by
  intro s nn cc v
  refine ⟨?_, ?_, encode_instrRst v, call_eq nn 6 s,
    (exec_instrCallCond cc nn s).trans (callIf_next (call_eq nn 6 s) cc 3),
    (exec_instrRst v s).trans (call_eq v.address 4 s)⟩
  · rw [← loByte_eq_byteOf, ← hiByte_eq_byteOf]
    rfl
  · rw [← loByte_eq_byteOf, ← hiByte_eq_byteOf]
    exact encode_instrCallCond cc nn

/-- Settles O45: each form is `ret`, `retIf` or `reti`, to the word popped. -/
theorem returns : Obligations.Returns := by
  intro s cc target htarget
  exact ⟨rfl, encode_instrRetCond cc, rfl, ret_next htarget 4,
    (exec_instrRetCond cc s).trans (retIf_next (ret_next htarget 5) cc 2), reti_next htarget 4⟩

end Sys2Proof.Proofs
end

section
/-! PROOFS. The system instructions (45_system R390-R398): the prefix, the fetch under the HALT bug, `NOP`, `DI`, `EI`,
`HALT`, `STOP` and the undefined opcodes, and who else writes their part of the CPU (10_state R27-R29). -/

namespace Sys2Proof.Proofs
open Sys2Proof.Machine

/-! ### The prefix (R391) -/

theorem decode_prefix (c : Byte) (rest : List Byte) : decode (0xCB :: c :: rest) = .ok (decodeCb c, rest) := by
  have h := encodeThenDecode (decodeCb c) rest (wellFormed_decodeCb c)
  rw [encode_decodeCb] at h
  exact h

/-- Every row of the CB map completes. -/
theorem exec_decodeCb_next (c : Byte) (s : State) : ∃ t, exec (decodeCb c) s = .next t :=
  decodeCb_cases (P := fun i => ∃ t, exec i s = .next t)
    (fun op o => ⟨_, exec_instrRot op o s⟩) (fun b o => ⟨_, exec_instrBit b o s⟩)
    (fun b o => ⟨_, exec_instrRes b o s⟩) (fun b o => ⟨_, exec_instrSet b o s⟩) c

/-- Settles O5: the row of the prefix has the CB row's bytes and its effect, and the CB row completes. -/
theorem prefixRunsCbRow : Obligations.PrefixRunsCbRow := by
  intro c rest s
  obtain ⟨t, ht⟩ := exec_decodeCb_next c s
  exact ⟨decode_prefix c rest, encode_decodeCb c, t, (exec_cb_prefix_eq c s).trans ht, ht⟩

/-! ### `HALT`, `STOP` and the undefined opcodes (R392, R394, R398) -/

theorem interruptPending_eq_false_iff (s : State) : interruptPending s = false ↔ s.irq.flag &&& s.irq.enable = 0 := by
  simp [interruptPending, pendingSet]

/-- The cases of `HALT`: halted, the HALT bug, nothing. -/
theorem halt_eq (n : Nat) (s : State) :
    halt n s =
      if s.cpu.ime = true ∨ interruptPending s = false then
        .next { s with cpu := { s.cpu with mode := .halted }, elapsed := n }
      else if s.cfg.haltBug = true then .next { s with cpu := { s.cpu with haltBug := true }, elapsed := n }
      else .next { s with elapsed := n } := by
  unfold halt
  simp only [Bool.or_eq_true, Bool.not_eq_true']
  rfl

section
variable {s : State} {n : Nat}

theorem stop_of_waitButton (h : s.cfg.stopMode = .waitButton) :
    stop n s =
      .next
        { s with cpu := { s.cpu with mode := .stopped }, timer := { s.timer with divCounter := 0 }, elapsed := n } := by
  unfold stop
  rw [h]
  rfl

/-- The report's address is one less than the pc, which has stepped back over the second byte (log entry 10). -/
theorem stop_of_refuse (h : s.cfg.stopMode = .refuse) :
    stop n s =
      .next
        { s with
          cpu := { s.cpu with mode := .locked, pc := s.cpu.pc - 1 }
          diagnostic := some { op := 0x10, addr := s.cpu.pc - 2, cause := .refusedStop }, elapsed := n } := by
  have haddr : s.cpu.pc - 2 = s.cpu.pc - 1 - 1 := by bv_omega
  unfold stop
  rw [h, haddr]
  rfl

theorem undefinedOpcode_of_lock {op : Byte} (h : s.cfg.illegalOpcodeMode = .lock) :
    undefinedOpcode op n s =
      .next
        { s with
          cpu := { s.cpu with mode := .locked }
          diagnostic := some { op := op, addr := s.cpu.pc - 1, cause := .undefinedOpcode }, elapsed := n } := by
  unfold undefinedOpcode
  rw [h]
  rfl

theorem undefinedOpcode_of_nop {op : Byte} (h : s.cfg.illegalOpcodeMode = .nop) :
    undefinedOpcode op n s = .next { s with elapsed := n } := by
  unfold undefinedOpcode
  rw [h]
  rfl

end

/-- Settles O46: `HALT` by its cases, the others by their meanings. -/
theorem nopDiEiHalt : Obligations.NopDiEiHalt := by
  intro s pending hpending
  have hnot : ¬pending → interruptPending s = false := fun h =>
    (interruptPending_eq_false_iff s).mpr (not_ne_iff.mp (hpending.not.mp h))
  have hsome : pending → ¬interruptPending s = false := fun h =>
    (interruptPending_eq_false_iff s).not.mpr (hpending.mp h)
  have hhalt : exec .halt s = halt 1 s := rfl
  rw [hhalt, halt_eq]
  refine ⟨rfl, rfl, rfl, rfl, rfl, rfl, rfl, ?ime, ?nonePending, ?bug, ?noBug⟩
  case ime => exact fun hime => if_pos (.inl hime)
  case nonePending => exact fun _ h => if_pos (.inr (hnot h))
  case bug => exact fun hime h hcfg => by simp [hime, hsome h, hcfg]
  case noBug => exact fun hime h hcfg => by simp [hime, hsome h, hcfg]

/-- Settles O47: each opcode under each value of its parameter. -/
theorem stopAndUndefined : Obligations.StopAndUndefined := by
  intro s n p hp
  rw [exec_undefined hp]
  exact ⟨rfl, encode_undefined hp, stop_of_waitButton, stop_of_refuse, undefinedOpcode_of_lock,
    undefinedOpcode_of_nop⟩

/-! ### The fetch under the HALT bug (R393) -/

theorem codeByte_zero (s : State) : codeByte s 0 = (fetch8 s).1 := by
  simp [codeByte, fetch8, onCpu]

theorem codeByte_one (s : State) : codeByte s 1 = (fetch8 (fetch8 s).2).1 := rfl

theorem fetch8_fetch8_snd (s : State) : (fetch8 (fetch8 s).2).2 = onCpu (fun k => { k with pc := k.pc + 2 }) s := by
  simp [fetch8, BitVec.add_assoc]

/-- Fetching takes what decodes from the opcode and the bytes after the opcode's fetch, and moves the pc past those
bytes. -/
theorem fetchInstr_of_decode {s u : State} {i : Instr} {rest : List Byte} (hu : (fetchOpcode s).2 = u)
    (h : decode [memRead s s.cpu.pc, codeByte u 0, codeByte u 1] = .ok (i, rest)) :
    fetchInstr s = (i, onCpu (fun k => { k with pc := k.pc + BitVec.ofNat 16 ((encode i).length - 1) }) u) := by
  obtain ⟨-, -, hlength⟩ := decodeThenEncode _ _ _ _ h
  have hopcode : fetchOpcode s = (memRead s s.cpu.pc, u) := by rw [← hu]; rfl
  rw [hlength]
  simp only [fetchInstr, hopcode]
  simp only [decode, codeByte_zero, codeByte_one] at h
  rcases instrLength_cases (memRead s s.cpu.pc) with hlen | hlen | hlen <;> simp only [hlen] at h ⊢ <;> cases h
  · simp [onCpu]
  · rfl
  · rw [fetch8_fetch8_snd]
    rfl

theorem beginStep_of_running {s : State} (hrun : s.cpu.mode = .running)
    (hnone : ¬(interruptPending s = true ∧ s.cpu.ime = true)) : beginStep s = .fetch s := by
  have hself : onCpu (fun k => { k with mode := .running }) s = s := by rw [← hrun]; rfl
  simp [beginStep, hrun, hnone, hself]

/-- Settles O7: the opcode's fetch clears the bit and leaves the pc, and the bytes after it are fetched from there. -/
theorem haltBugRepeatsOpcode : Obligations.HaltBugRepeatsOpcode := by
  intro s t u i rest ht hrun hnone hbug hu hdecode
  have hopcode : (fetchOpcode t).2 = u := by rw [fetchOpcode_snd, hu]; simp [onCpu, hbug]
  unfold step
  rw [← ht, beginStep_of_running hrun hnone]
  dsimp only
  have hfetch := fetchInstr_of_decode hopcode hdecode
  generalize fetchInstr t = fetched at hfetch ⊢
  subst hfetch
  rfl

/-! ### Who writes `IME` and the `EI` counter (10_state R28, 60_exceptions R427) -/

@[simp] theorem setOperand_ime (o : Operand8) (v : Byte) (k : Cpu) : (setOperand o v k).ime = k.ime := by
  cases o with
  | reg r => exact setReg8_ime r v k
  | atHl => rfl

@[simp] theorem setOperand_eiDelay (o : Operand8) (v : Byte) (k : Cpu) :
    (setOperand o v k).eiDelay = k.eiDelay := by
  cases o with
  | reg r => exact setReg8_eiDelay r v k
  | atHl => rfl

/-- The instruction leaves `IME` and the `EI` counter. -/
def KeepsInterruptEnable (i : Instr) : Prop :=
  ∀ s t : State, exec i s = .next t → t.cpu.ime = s.cpu.ime ∧ t.cpu.eiDelay = s.cpu.eiDelay

theorem keepsInterruptEnable_of {i : Instr} {op : State → Result} (hexec : ∀ s, exec i s = op s)
    (h : ∀ {s t : State}, op s = .next t → t.cpu.ime = s.cpu.ime ∧ t.cpu.eiDelay = s.cpu.eiDelay) :
    KeepsInterruptEnable i := fun s _ hnext => h ((hexec s).symm.trans hnext)

theorem keepsInterruptEnable_accumulator {i : Instr} {g : Byte → Flags → Byte × Flags} {n : Nat}
    (hexec : ∀ s, exec i s = accumulator g n s) : KeepsInterruptEnable i :=
  keepsInterruptEnable_of hexec fun h => by simp [accumulator_cpu h]

theorem keepsInterruptEnable_rot (op : RotOp) (o : Operand8) : KeepsInterruptEnable (instrRot op o) :=
  keepsInterruptEnable_of (exec_instrRot op o) fun h => by simp [rotate_cpu h]

theorem keepsInterruptEnable_bit (b : BitIndex) (o : Operand8) : KeepsInterruptEnable (instrBit b o) :=
  keepsInterruptEnable_of (exec_instrBit b o) fun h => by simp [testBit_cpu h]

theorem keepsInterruptEnable_res (b : BitIndex) (o : Operand8) : KeepsInterruptEnable (instrRes b o) :=
  keepsInterruptEnable_of (exec_instrRes b o) fun h => by simp [resetBit_cpu h]

theorem keepsInterruptEnable_set (b : BitIndex) (o : Operand8) : KeepsInterruptEnable (instrSet b o) :=
  keepsInterruptEnable_of (exec_instrSet b o) fun h => by simp [setBit_cpu h]

/-- Every instruction but `DI`, `EI` and `RETI` leaves both. -/
theorem keepsInterruptEnable (i : Instr) (hdi : i ≠ .di) (hei : i ≠ .ei) (hreti : i ≠ .reti) :
    KeepsInterruptEnable i := by
  cases i using Instr.family_cases with
  | ldReg r o => exact keepsInterruptEnable_of (exec_instrLd_reg r o) fun h => by simp [load8_cpu h]
  | ldAtHl r => exact keepsInterruptEnable_of (exec_instrLd_atHl r) fun h => by simp [load8_cpu h]
  | ldImm o n => exact keepsInterruptEnable_of (exec_instrLdImm o n) fun h => by simp [load8_cpu h]
  | loadA m => exact keepsInterruptEnable_of (exec_loadAInstr m) fun h => by simp [loadA_cpu h]
  | storeA m => exact keepsInterruptEnable_of (exec_storeAInstr m) fun h => by simp [storeA_cpu h]
  | ldPair p nn => exact keepsInterruptEnable_of (exec_instrLdPair p nn) fun h => by simp [loadPair_cpu h]
  | storeSp nn => exact fun s t h => by simp [storeSp_cpu h]
  | ldSpHl => exact fun s t h => by simp [loadSpHl_cpu h]
  | push p => exact keepsInterruptEnable_of (exec_instrPush p) fun h => by simp [pushPair_cpu h]
  | pop p => exact keepsInterruptEnable_of (exec_instrPop p) fun h => by simp [popPair_cpu h]
  | alu op src => exact keepsInterruptEnable_of (exec_aluInstr op src) fun h => by simp [alu_cpu h]
  | inc o => exact keepsInterruptEnable_of (exec_instrInc o) fun h => by simp [inc8_cpu h]
  | dec o => exact keepsInterruptEnable_of (exec_instrDec o) fun h => by simp [dec8_cpu h]
  | daa => exact keepsInterruptEnable_accumulator fun _ => rfl
  | cpl => exact keepsInterruptEnable_accumulator (g := fun a f => (~~~a, cplFlags f)) fun _ => rfl
  | scf => exact keepsInterruptEnable_accumulator (g := fun a f => (a, scfFlags f)) fun _ => rfl
  | ccf => exact keepsInterruptEnable_accumulator (g := fun a f => (a, ccfFlags f)) fun _ => rfl
  | incPair p => exact keepsInterruptEnable_of (exec_instrIncPair p) fun h => by simp [addToPair_cpu h]
  | decPair p => exact keepsInterruptEnable_of (exec_instrDecPair p) fun h => by simp [addToPair_cpu h]
  | addHl p => exact keepsInterruptEnable_of (exec_instrAddHl p) fun h => by simp [addHl_cpu h]
  | addSp e => exact fun s t h => by simp [addSp_cpu h]
  | ldHlSp e => exact fun s t h => by simp [loadHlSp_cpu h]
  | rlca | rrca | rla | rra => exact fun s t h => by simp [rotateA_cpu h]
  | rot op o => exact keepsInterruptEnable_rot op o
  | bit b o => exact keepsInterruptEnable_bit b o
  | res b o => exact keepsInterruptEnable_res b o
  | set b o => exact keepsInterruptEnable_set b o
  | jp | jpHl | jr => exact fun s t h => by simp [jump_cpu h]
  | jpCond cc nn =>
    exact keepsInterruptEnable_of (exec_instrJpCond cc nn) fun h => by rw [jumpIf_cpu h]; exact ⟨rfl, rfl⟩
  | jrCond cc e =>
    exact keepsInterruptEnable_of (exec_instrJrCond cc e) fun h => by rw [jumpIf_cpu h]; exact ⟨rfl, rfl⟩
  | call nn => exact fun s t h => by simp [call_cpu h]
  | callCond cc nn =>
    exact keepsInterruptEnable_of (exec_instrCallCond cc nn) fun h => by rw [callIf_cpu h]; exact ⟨rfl, rfl⟩
  | ret => exact fun s t h => by simp [ret_cpu h]
  | retCond cc =>
    exact keepsInterruptEnable_of (exec_instrRetCond cc) fun h => by rw [retIf_cpu h]; exact ⟨rfl, rfl⟩
  | reti => exact absurd rfl hreti
  | rst v => exact keepsInterruptEnable_of (exec_instrRst v) fun h => by simp [call_cpu h]
  | nop => exact fun s t h => by simp [done_cpu h]
  | di => exact absurd rfl hdi
  | ei => exact absurd rfl hei
  | halt => exact fun s t h => by rw [halt_cpu h]; exact ⟨rfl, rfl⟩
  | stop n =>
    intro s t h
    rw [stop_cpu h]
    split <;> exact ⟨rfl, rfl⟩
  | undefined p hp =>
    exact keepsInterruptEnable_of (exec_undefined hp) fun h => by rw [undefinedOpcode_cpu h]; exact ⟨rfl, rfl⟩
  | cbPrefix c =>
    have hcb : KeepsInterruptEnable (decodeCb c) :=
      decodeCb_cases (P := KeepsInterruptEnable) keepsInterruptEnable_rot keepsInterruptEnable_bit
        keepsInterruptEnable_res keepsInterruptEnable_set c
    exact keepsInterruptEnable_of (exec_cb_prefix_eq c) (hcb _ _)

/-- `IME` and the `EI` counter after an instruction. -/
theorem exec_interruptEnable {i : Instr} {s t : State} (h : exec i s = .next t) :
    t.cpu.ime = (if i = .di then false else if i = .reti then true else s.cpu.ime) ∧
      t.cpu.eiDelay = (if i = .ei then 2 else if i = .di then 0 else s.cpu.eiDelay) := by
  by_cases hdi : i = .di
  · subst hdi
    simp [disableInterrupts_cpu h]
  by_cases hei : i = .ei
  · subst hei
    simp [enableInterrupts_cpu h]
  by_cases hreti : i = .reti
  · subst hreti
    simp [reti_cpu h]
  simpa [hdi, hei, hreti] using keepsInterruptEnable i hdi hei hreti s t h

/-! ### Who changes the mode and the halt-bug bit (10_state R27, R29) -/

section
variable {s t : State} {n : Nat}

theorem halt_mode (h : halt n s = .next t) : t.cpu.mode = s.cpu.mode ∨ t.cpu.mode = .halted := by
  rw [halt_eq] at h
  split_ifs at h <;> cases h
  · exact .inr rfl
  · exact .inl rfl
  · exact .inl rfl

theorem stop_mode (h : stop n s = .next t) :
    t.cpu.mode = if s.cfg.stopMode = .waitButton then .stopped else .locked := by
  rw [stop_cpu h]
  cases s.cfg.stopMode <;> rfl

theorem stop_haltBug (h : stop n s = .next t) : t.cpu.haltBug = s.cpu.haltBug := by
  rw [stop_cpu h]
  cases s.cfg.stopMode <;> rfl

theorem undefinedOpcode_mode {op : Byte} (h : undefinedOpcode op n s = .next t) :
    t.cpu.mode = s.cpu.mode ∨ (s.cfg.illegalOpcodeMode = .lock ∧ t.cpu.mode = .locked) := by
  cases hmode : s.cfg.illegalOpcodeMode with
  | lock =>
    cases (undefinedOpcode_of_lock hmode).symm.trans h
    exact .inr ⟨rfl, rfl⟩
  | nop =>
    cases (undefinedOpcode_of_nop hmode).symm.trans h
    exact .inl rfl

end

/-- Settles O16: the mode and the halt-bug bit by what the instruction can do, `IME` and the counter by
`exec_interruptEnable`. -/
theorem modeAndInterruptControlWriters : Obligations.ModeAndInterruptControlWriters := by
  intro i s t h
  obtain ⟨hime, hdelay⟩ := exec_interruptEnable h
  refine ⟨fun hchange => ?mode, hime, hdelay, fun hhalt => ?haltBug⟩
  case mode =>
    rcases exec_cases h with hstores | ⟨hi, h⟩ | ⟨n, hi, h⟩ | ⟨p, hp, hi, h⟩
    · exact absurd hstores.mode hchange
    · exact .inl ⟨hi, (halt_mode h).resolve_left hchange⟩
    · exact .inr (.inl ⟨n, hi, stop_mode h⟩)
    · exact .inr (.inr ⟨hi ▸ List.mem_map_of_mem hp, (undefinedOpcode_mode h).resolve_left hchange⟩)
  case haltBug =>
    rcases exec_cases h with hstores | ⟨hi, -⟩ | ⟨-, -, h⟩ | ⟨p, -, -, h⟩
    · exact hstores.haltBug
    · exact absurd hi hhalt
    · exact stop_haltBug h
    · rw [undefinedOpcode_cpu h]

end Sys2Proof.Proofs
end

section
/-! PROOFS. Every instruction completes, by the operation of its family (60_exceptions R424). -/

namespace Sys2Proof.Proofs
open Sys2Proof.Machine

/-- The outcome is a next state, after 1 to 6 M-cycles. -/
def Completes (r : Result) : Prop := ∃ t, r = .next t ∧ 1 ≤ t.elapsed ∧ t.elapsed ≤ 6

theorem completes_done {n : Nat} (s : State) (h : 1 ≤ n ∧ n ≤ 6 := by decide) : Completes (done n s) := ⟨_, rfl, h⟩

/-- An operation on an operand, its count by the operand's form. -/
theorem completes_done_operand (o : Operand8) {n m : Nat} (s : State) (hreg : 1 ≤ n ∧ n ≤ 6 := by decide)
    (hatHl : 1 ≤ m ∧ m ≤ 6 := by decide) : Completes (done (o.cycles n m) s) := by
  cases o with
  | reg r => exact completes_done s hreg
  | atHl => exact completes_done s hatHl

theorem Completes.ite {c : Prop} [Decidable c] {r r' : Result} (h : Completes r) (h' : Completes r') :
    Completes (if c then r else r') := ite_elim (fun _ => h) fun _ => h'

theorem completes_stop (s : State) : Completes (stop 1 s) := by
  unfold stop
  split
  · exact completes_done _
  · exact completes_done _

theorem completes_undefinedOpcode (op : Byte) (s : State) : Completes (undefinedOpcode op 1 s) := by
  unfold undefinedOpcode
  split
  · exact completes_done _
  · exact completes_done s

theorem addressing_cycles_bounds (m : Addressing) : 1 ≤ m.cycles ∧ m.cycles ≤ 6 := by
  cases m <;> simp [Addressing.cycles]

theorem source8_cycles_bounds (src : Source8) : 1 ≤ src.cycles ∧ src.cycles ≤ 6 := by
  cases src with
  | op o => cases o <;> simp [Source8.cycles]
  | imm n => simp [Source8.cycles]

/-- By family: each operation ends in `done` with its count, a conditional one in either of two. -/
theorem exec_completes (i : Instr) (s : State) : Completes (exec i s) := by
  have of_exec {i : Instr} {r : Result} (hexec : exec i s = r) (h : Completes r) : Completes (exec i s) := hexec ▸ h
  have rot (op : RotOp) (o : Operand8) := of_exec (exec_instrRot op o s) (completes_done_operand o _)
  have bit (b : BitIndex) (o : Operand8) := of_exec (exec_instrBit b o s) (completes_done_operand o _)
  have res (b : BitIndex) (o : Operand8) := of_exec (exec_instrRes b o s) (completes_done_operand o _)
  have set (b : BitIndex) (o : Operand8) := of_exec (exec_instrSet b o s) (completes_done_operand o _)
  cases i using Instr.family_cases with
  | ldReg r o => exact of_exec (exec_instrLd_reg r o s) (completes_done_operand o _)
  | ldAtHl r => exact of_exec (exec_instrLd_atHl r s) (completes_done _)
  | ldImm o n => exact of_exec (exec_instrLdImm o n s) (completes_done_operand o _)
  | loadA m => exact of_exec (exec_loadAInstr m s) (completes_done _ (addressing_cycles_bounds m))
  | storeA m => exact of_exec (exec_storeAInstr m s) (completes_done _ (addressing_cycles_bounds m))
  | ldPair p nn => exact of_exec (exec_instrLdPair p nn s) (completes_done _)
  | push p => exact of_exec (exec_instrPush p s) (completes_done _)
  | pop p => exact of_exec (exec_instrPop p s) (completes_done _)
  | alu op src => exact of_exec (exec_aluInstr op src s) (completes_done _ (source8_cycles_bounds src))
  | inc o => exact of_exec (exec_instrInc o s) (completes_done_operand o _)
  | dec o => exact of_exec (exec_instrDec o s) (completes_done_operand o _)
  | incPair p => exact of_exec (exec_instrIncPair p s) (completes_done _)
  | decPair p => exact of_exec (exec_instrDecPair p s) (completes_done _)
  | addHl p => exact of_exec (exec_instrAddHl p s) (completes_done _)
  | rot op o => exact rot op o
  | bit b o => exact bit b o
  | res b o => exact res b o
  | set b o => exact set b o
  | jpCond cc nn => exact of_exec (exec_instrJpCond cc nn s) (.ite (completes_done _) (completes_done _))
  | jrCond cc e => exact of_exec (exec_instrJrCond cc e s) (.ite (completes_done _) (completes_done _))
  | callCond cc nn => exact of_exec (exec_instrCallCond cc nn s) (.ite (completes_done _) (completes_done _))
  | retCond cc => exact of_exec (exec_instrRetCond cc s) (.ite (completes_done _) (completes_done _))
  | rst v => exact of_exec (exec_instrRst v s) (completes_done _)
  | halt => exact .ite (completes_done _) (.ite (completes_done _) (completes_done s))
  | stop n => exact completes_stop s
  | undefined p hp => exact of_exec (exec_undefined hp s) (completes_undefinedOpcode p.1 s)
  | cbPrefix c =>
    exact of_exec (exec_cb_prefix_eq c s) (decodeCb_cases (P := fun i => Completes (exec i s)) rot bit res set c)
  | storeSp | ldSpHl | daa | cpl | scf | ccf | addSp | ldHlSp | rlca | rrca | rla | rra | jp | jpHl | jr | call | ret |
    reti | nop | di | ei => exact completes_done _

end Sys2Proof.Proofs
end

section
/-! PROOFS. The parts of a step (60_exceptions R426-R430, 64_scheduler R600, R601): how it begins, what the instruction
it fetches is, and what it leaves of the interrupt enable and the delayed `EI`. -/

namespace Sys2Proof.Proofs
open Sys2Proof.Machine

/-! ### The step by its phases (R426) -/

section
variable {s : State}

theorem step_of_over {u : State} (h : beginStep (hostPhase s) = .over u) : step s = .next (runDevices u) := by
  rw [step, h]

theorem step_of_fetch {b v : State} (h : beginStep (hostPhase s) = .fetch b)
    (hexec : exec (fetchInstr b).1 (fetchInstr b).2 = .next v) :
    step s = .next (runDevices (advanceEiDelay v)) := by
  simp [step, h, hexec]

/-- Locked, stopped, or halted with nothing pending: one idle M-cycle (R429). -/
theorem beginStep_of_idle
    (hidle : s.cpu.mode = .locked ∨ s.cpu.mode = .stopped ∨ (s.cpu.mode = .halted ∧ interruptPending s = false)) :
    beginStep s = .over { s with elapsed := 1 } := by
  rcases beginStep_cases s with ⟨hbegin, -⟩ | ⟨-, hmode, hpending, -⟩ | ⟨-, hmode, -⟩
  · exact hbegin
  · rcases hmode with hmode | hmode <;> simp [hmode, hpending] at hidle
  · rcases hmode with hmode | ⟨hmode, hpending⟩
    · simp [hmode] at hidle
    · simp [hmode, hpending] at hidle

/-- A pending interrupt is taken by an enabled CPU that runs or is halted (R428). -/
theorem beginStep_of_interrupt (hmode : s.cpu.mode = .running ∨ s.cpu.mode = .halted)
    (hpending : interruptPending s = true) (hime : s.cpu.ime = true) :
    beginStep s = .over (serviceInterrupt (onCpu (fun k => { k with mode := .running }) s)) := by
  rcases beginStep_cases s with ⟨-, hidle⟩ | ⟨hbegin, -⟩ | ⟨-, -, hnone⟩
  · rcases hmode with hmode | hmode <;> simp [hmode, hpending] at hidle
  · exact hbegin
  · exact absurd ⟨hpending, hime⟩ hnone

/-- With no interrupt to take, a CPU that runs or that a pending one wakes fetches (R428). -/
theorem beginStep_of_awake (hmode : s.cpu.mode = .running ∨ (s.cpu.mode = .halted ∧ interruptPending s = true))
    (hnone : ¬(interruptPending s = true ∧ s.cpu.ime = true)) :
    beginStep s = .fetch (onCpu (fun k => { k with mode := .running }) s) := by
  rcases beginStep_cases s with ⟨-, hidle⟩ | ⟨-, -, hinterrupt⟩ | ⟨hbegin, -⟩
  · rcases hmode with hmode | ⟨hmode, hpending⟩
    · simp [hmode] at hidle
    · simp [hmode, hpending] at hidle
  · exact absurd hinterrupt hnone
  · exact hbegin

end

/-! ### The host's calls before the step (64_scheduler R604) -/

/-- They change the mode, the requests, the keys and the queue alone. -/
theorem hostPhase_frame (s : State) :
    hostPhase s =
      { s with
        cpu := { s.cpu with mode := (hostPhase s).cpu.mode }, irq := (hostPhase s).irq
        joypad := (hostPhase s).joypad, inputs := (hostPhase s).inputs } := by
  refine hostPhase_induct (P := fun t : State => t =
    { s with cpu := { s.cpu with mode := t.cpu.mode }, irq := t.irq, joypad := t.joypad, inputs := t.inputs })
    (fun ev t ht => ?_) (fun t q ht => ?_) s rfl
  · rw [setButton_frame, ht]
  · exact congrArg (fun u : State => { u with inputs := q }) ht

/-- The head of the queue is used up (log entry 14). -/
theorem hostPhase_inputs (s : State) : (hostPhase s).inputs = s.inputs.tail := by
  cases hqueue : s.inputs with
  | nil => rw [hostPhase_of_nil hqueue, hqueue]; rfl
  | cons evs rest =>
    rw [hostPhase_of_cons hqueue]
    refine List.foldlRecOn (motive := fun t : State => t.inputs = rest) evs _ rfl fun t ht ev _ => ?_
    rw [setButton_frame]
    exact ht

@[simp] theorem hostPhase_ime (s : State) : (hostPhase s).cpu.ime = s.cpu.ime := by rw [hostPhase_frame]
@[simp] theorem hostPhase_eiDelay (s : State) : (hostPhase s).cpu.eiDelay = s.cpu.eiDelay := by rw [hostPhase_frame]
@[simp] theorem hostPhase_cfg (s : State) : (hostPhase s).cfg = s.cfg := by rw [hostPhase_frame]
@[simp] theorem hostPhase_cycles (s : State) : (hostPhase s).cycles = s.cycles := by rw [hostPhase_frame]
@[simp] theorem hostPhase_bootDisabled (s : State) : (hostPhase s).bootDisabled = s.bootDisabled := by
  rw [hostPhase_frame]
@[simp] theorem hostPhase_cartWrites (s : State) : (hostPhase s).cartWrites = s.cartWrites := by rw [hostPhase_frame]
@[simp] theorem hostPhase_mem (s : State) : (hostPhase s).mem = s.mem := by rw [hostPhase_frame]

/-! ### The decoded instruction (R426, 30_encoding R143) -/

/-- A fetched byte depends on the address, and on the halt-bug bit by an audio read. -/
theorem codeByte_onCpu {g : Cpu → Cpu} {s : State} {n m : Nat}
    (hpc : (g s.cpu).pc + BitVec.ofNat 16 n = s.cpu.pc + BitVec.ofNat 16 m)
    (hbug : (g s.cpu).haltBug = s.cpu.haltBug) : codeByte (onCpu g s) n = codeByte s m := by
  have hread := memRead_onCpu (g := fun _ => { g s.cpu with pc := (g s.cpu).pc + BitVec.ofNat 16 n })
    (s := onCpu (fun k => { k with pc := k.pc + BitVec.ofNat 16 m }) s) hpc hbug
  exact (hread _).trans (congrArg _ hpc)

/-- A fetch without the HALT bug takes what decodes from the bytes at the pc, and moves the pc past it. -/
theorem fetchInstr_of_codeBytes {s : State} {i : Instr} {rest : List Byte} (hbug : s.cpu.haltBug = false)
    (h : decode [codeByte s 0, codeByte s 1, codeByte s 2] = .ok (i, rest)) :
    fetchInstr s = (i, onCpu (fun k => { k with pc := k.pc + BitVec.ofNat 16 (encode i).length }) s) := by
  have hopcode : (fetchOpcode s).2 = onCpu (fun k => { k with pc := k.pc + 1 }) s := by
    rw [fetchOpcode_snd]
    simp [onCpu, hbug]
  have hbytes : [codeByte s 0, codeByte s 1, codeByte s 2] =
      [memRead s s.cpu.pc, codeByte (onCpu (fun k => { k with pc := k.pc + 1 }) s) 0,
        codeByte (onCpu (fun k => { k with pc := k.pc + 1 }) s) 1] := by
    rw [codeByte_onCpu (m := 1) (by simp) rfl, codeByte_onCpu (m := 2) (by simp [BitVec.add_assoc]) rfl, codeByte_zero]
    rfl
  rw [hbytes] at h
  obtain ⟨-, -, hlength⟩ := decodeThenEncode _ _ _ _ h
  have hpc : ∀ w : Word, w + 1 + BitVec.ofNat 16 ((encode i).length - 1) = w + BitVec.ofNat 16 (encode i).length := by
    intro w
    rw [hlength]
    rcases instrLength_cases (memRead s s.cpu.pc) with hlen | hlen | hlen <;> simp [hlen, BitVec.add_assoc]
  rw [fetchInstr_of_decode hopcode h, onCpu_onCpu]
  simp only [hpc]

/-- Settles O6: the CPU fetches, from the bytes at the pc, whether it ran or wakes. -/
theorem stepRunsDecodedInstruction : Obligations.StepRunsDecodedInstruction := by
  unfold Obligations.StepRunsDecodedInstruction
  intro s t i rest ht hmode hnone hbug hdecode
  obtain ⟨b, hb⟩ : ∃ b, b = onCpu (fun k => { k with mode := .running }) t := ⟨_, rfl⟩
  have hbegin : beginStep (hostPhase s) = .fetch b := by
    rw [hb, ← ht]
    exact beginStep_of_awake hmode hnone
  have hbytes (n : Nat) : codeByte t n = codeByte b n := by
    rw [hb]
    exact (codeByte_onCpu rfl rfl).symm
  rw [hbytes 0, hbytes 1, hbytes 2] at hdecode
  have hfetch := fetchInstr_of_codeBytes (by rw [hb]; exact hbug) hdecode
  have hinstr : (fetchInstr b).1 = i := by rw [hfetch]
  have hpc : (fetchInstr b).2 =
      onCpu (fun k => { k with mode := .running, pc := k.pc + BitVec.ofNat 16 (encode i).length }) t := by
    rw [hfetch, hb]
    rfl
  obtain ⟨v, hexec, -⟩ := exec_completes (fetchInstr b).1 (fetchInstr b).2
  rw [step_of_fetch hbegin hexec, ← hpc, ← hinstr, hexec]

/-! ### The idle step (R429, 64_scheduler R601, R602) -/

/-- Settles O8: one M-cycle of the devices, which a stopped CPU cuts down to the timed DMA. -/
theorem idleStep : Obligations.IdleStep := by
  unfold Obligations.IdleStep
  rintro s t d ht hidle rfl
  have hbegin : beginStep (hostPhase s) = .over t := by
    subst ht
    exact beginStep_of_idle hidle
  have helapsed : t.elapsed = 1 := by rw [ht]
  have hdevices : devicesAfter t t.elapsed = deviceOrder t := by
    rw [helapsed]
    rfl
  have hsame : SameCore t (deviceOrder t) := sameCore_deviceMCycle t
  have hcycles : (deviceOrder t).cycles = s.cycles := by
    rw [hsame.cycles, ht]
    exact hostPhase_cycles s
  refine ⟨?_, hsame.cpu, fun hstopped => ?_⟩
  · rw [step_of_over hbegin, runDevices_eq, hdevices, hcycles, helapsed]
    rfl
  · simp [hstopped]

/-! ### Taking an interrupt (R430) -/

/-- The lowest pending source is the one with the vector and the mask of its bit (R420, R431). -/
theorem firstSource_of_lowest {p : BitVec 5} {k : Nat} (hk : k < 5) (hset : p.getLsbD k = true)
    (hlower : ∀ j < k, p.getLsbD j = false) :
    ∃ src, firstSource p = some src ∧ src.vector = BitVec.ofNat 16 (0x0040 + 8 * k) ∧ src.mask = 1#5 <<< k := by
  rw [firstSource_eq]
  interval_cases k <;> simp (disch := decide) only [hset, hlower, if_true, Bool.false_eq_true, if_false] <;>
    exact ⟨_, rfl, rfl, rfl⟩

section
variable {s p : State}
  (hp : p = push16 (if s.cpu.haltBug then s.cpu.pc - 1 else s.cpu.pc) (onCpu (fun k => { k with haltBug := false }) s))
include hp

/-- An interrupt entry acknowledges the source and goes to its vector. -/
theorem serviceInterrupt_of_source {src : IrqSource} (h : firstSource (pendingSet p) = some src) :
    serviceInterrupt s =
      { p with
        cpu := { p.cpu with ime := false, pc := src.vector }
        irq := { p.irq with flag := p.irq.flag &&& ~~~src.mask }, elapsed := 5 } := by
  rw [serviceInterrupt_eq, ← hp]
  simp only [h]

/-- The push itself may have emptied the pending set. -/
theorem serviceInterrupt_of_none (h : firstSource (pendingSet p) = none) :
    serviceInterrupt s = { p with cpu := { p.cpu with ime := false, pc := 0x0000 }, elapsed := 5 } := by
  rw [serviceInterrupt_eq, ← hp]
  simp only [h]

end

/-- Settles O9: the entry's push, then the first source pending after it, or none. -/
theorem interruptDispatch : Obligations.InterruptDispatch := by
  unfold Obligations.InterruptDispatch
  intro s t p ht hmode hpending hime hp
  obtain ⟨r, hr⟩ : ∃ r, r = onCpu (fun k => { k with mode := .running }) t := ⟨_, rfl⟩
  have hpush : p = push16 (if r.cpu.haltBug then r.cpu.pc - 1 else r.cpu.pc)
      (onCpu (fun k => { k with haltBug := false }) r) := by
    rw [hp, hr]
    rfl
  have hbegin : beginStep (hostPhase s) = .over (serviceInterrupt r) := by
    rw [hr, ← ht]
    exact beginStep_of_interrupt hmode hpending hime
  rw [step_of_over hbegin]
  refine ⟨fun k hk hset hlower => ?_, fun hempty => ?_⟩
  · obtain ⟨src, hfirst, hvector, hmask⟩ := firstSource_of_lowest hk hset hlower
    rw [serviceInterrupt_of_source hpush hfirst, hvector, hmask]
  · have hfirst : firstSource (pendingSet p) = none := congrArg firstSource hempty
    rw [serviceInterrupt_of_none hpush hfirst]

/-! ### The delayed `EI` (R427) -/

/-- An interrupt entry clears `IME` and leaves the counter. -/
theorem serviceInterrupt_eiDelay (s : State) : (serviceInterrupt s).cpu.eiDelay = s.cpu.eiDelay := by
  rw [serviceInterrupt_eq]
  dsimp only
  split <;> simp

/-- A step over without an instruction leaves the counter. -/
theorem beginStep_over_eiDelay {s u : State} (h : beginStep s = .over u) : u.cpu.eiDelay = s.cpu.eiDelay := by
  rcases beginStep_cases s with ⟨hbegin, -⟩ | ⟨hbegin, -⟩ | ⟨hbegin, -⟩ <;> cases hbegin.symm.trans h
  · rfl
  · exact serviceInterrupt_eiDelay _

/-- Neither the waking nor the fetch moves the counter or `IME`. -/
theorem beginStep_fetch_interruptEnable {s b : State} (h : beginStep s = .fetch b) :
    (fetchInstr b).2.cpu.ime = s.cpu.ime ∧ (fetchInstr b).2.cpu.eiDelay = s.cpu.eiDelay := by
  rcases beginStep_cases s with ⟨hbegin, -⟩ | ⟨hbegin, -⟩ | ⟨hbegin, -⟩ <;> cases hbegin.symm.trans h
  rw [fetchInstr_snd]
  exact ⟨rfl, rfl⟩

/-- The counter and `IME` after step 6, by the counter before it. -/
theorem advanceEiDelay_interruptEnable (s : State) :
    (advanceEiDelay s).cpu.eiDelay = (if s.cpu.eiDelay = 2 then 1 else 0) ∧
      (advanceEiDelay s).cpu.ime = if s.cpu.eiDelay = 1 then true else s.cpu.ime := by
  have hcases : ∀ n : Fin 3, n = 0 ∨ n = 1 ∨ n = 2 := by decide
  rw [advanceEiDelay_eq]
  rcases hcases s.cpu.eiDelay with h | h | h <;> simp [h]

/-- Settles O10: the instruction's part by `exec_interruptEnable`, then step 6; a step without one runs neither. -/
theorem eiDelayCounter : Obligations.EiDelayCounter := by
  unfold Obligations.EiDelayCounter
  intro s t hstep
  refine ⟨fun u hover => ?_, fun b hfetch => ?_⟩
  · rw [step_of_over hover] at hstep
    rw [← Host.Outcome.next.inj hstep, (devicesFrame_runDevices u).cpu, beginStep_over_eiDelay hover,
      hostPhase_eiDelay]
  · obtain ⟨v, hexec, -⟩ := exec_completes (fetchInstr b).1 (fetchInstr b).2
    obtain ⟨himeFetch, hdelayFetch⟩ := beginStep_fetch_interruptEnable hfetch
    obtain ⟨himeExec, hdelayExec⟩ := exec_interruptEnable hexec
    obtain ⟨hdelay, hime⟩ := advanceEiDelay_interruptEnable v
    rw [step_of_fetch hfetch hexec] at hstep
    rw [← Host.Outcome.next.inj hstep, (devicesFrame_runDevices _).cpu, hdelay, hime, himeExec, hdelayExec,
      himeFetch, hdelayFetch, hostPhase_ime, hostPhase_eiDelay]
    dsimp only
    generalize (fetchInstr b).1 = i
    refine ⟨fun hei => ?ei, fun hdi => ?di, fun hei hdi hone => ?one, fun hei hdi htwo => ?two,
      fun hei hdi hzero => ?zero, fun hei hdi hne => ?ime⟩
    case ei => simp [hei]
    case di => simp [hdi]
    case one => simp [hei, hdi, hone]
    case two => simp [hei, hdi, htwo]
    case zero => simp [hei, hdi, hzero]
    case ime => simp [hei, hdi, hne]

end Sys2Proof.Proofs
end

section
/-! PROOFS. Every step goes on: its CPU step takes 1 to 6 M-cycles, and no part of it changes the parameters or the
cartridge's contents, or clears the boot latch (60_exceptions R424, R426, 64_scheduler R600-R603, 20_memory R86). -/

namespace Sys2Proof.Proofs
open Sys2Proof.Machine

/-! ### What no part of a step changes -/

/-- A cell of the cartridge's contents (20_memory R81, R86). -/
def CartCell (k : Nat) : Prop := k < 0x8000 ∨ (0xA000 ≤ k ∧ k < 0xC000)

/-- The parameters and the cartridge's contents stay, the boot latch is not cleared, and writes to the cartridge are
added to those it has received. -/
structure StepKeeps (s t : State) : Prop where
  cfg : t.cfg = s.cfg
  boot : s.bootDisabled = true → t.bootDisabled = true
  cartWrites : ∃ ws, t.cartWrites = ws ++ s.cartWrites
  contents : ∀ k, CartCell k → t.mem.get k = s.mem.get k

theorem StepKeeps.trans {s t u : State} (h : StepKeeps s t) (k : StepKeeps t u) : StepKeeps s u := by
  obtain ⟨ws, hws⟩ := h.cartWrites
  obtain ⟨vs, hvs⟩ := k.cartWrites
  exact ⟨k.cfg.trans h.cfg, fun hs => k.boot (h.boot hs), ⟨vs ++ ws, by rw [hvs, hws, List.append_assoc]⟩,
    fun n hn => (k.contents n hn).trans (h.contents n hn)⟩

theorem stepKeeps_of_eq {s t : State} (hcfg : t.cfg = s.cfg) (hboot : t.bootDisabled = s.bootDisabled)
    (hcart : t.cartWrites = s.cartWrites) (hmem : t.mem = s.mem) : StepKeeps s t :=
  ⟨hcfg, hboot.trans, ⟨[], hcart⟩, fun _ _ => by rw [hmem]⟩

theorem stepKeeps_hostPhase (s : State) : StepKeeps s (hostPhase s) :=
  stepKeeps_of_eq (hostPhase_cfg s) (hostPhase_bootDisabled s) (hostPhase_cartWrites s) (hostPhase_mem s)

/-! ### Bus writes -/

/-- Plain storage and OAM have no cell in the cartridge. -/
theorem ne_cellOf_of_cartCell {k : Nat} (hk : CartCell k) {a : Word} (ha : regionOf a ∈ storedRegions) :
    k ≠ cellOf a := by
  have hrange := regionOf_range a
  unfold CartCell at hk
  simp only [storedRegions, List.mem_cons, List.not_mem_nil, or_false] at ha
  rcases ha with hr | hr | hr | hr | hr <;> simp only [hr] at hrange <;> simp only [cellOf, hr] <;> omega

theorem ne_oamCell_of_cartCell {k : Nat} (hk : CartCell k) (i : Nat) : k ≠ 0xFE00 + i := by
  unfold CartCell at hk
  omega

/-- A transfer stores into OAM alone (20_memory R101, R102). -/
theorem writeDma_get_of_cartCell {k : Nat} (hk : CartCell k) (v : Byte) (s : State) :
    (writeDma v s).mem.get k = s.mem.get k := by
  cases hmode : s.cfg.dmaMode with
  | instant =>
    rw [writeDma_of_instant hmode]
    exact dmaCopies_get_of_ne _ (ioWriteReg v s .dma) 160 fun i _ => ne_oamCell_of_cartCell hk i
  | timed => rw [writeDma_of_timed hmode]

/-- A bus write to the cartridge is recorded, its contents stay (20_memory R86; log entry 6). -/
theorem memWrite_get_of_cartCell {k : Nat} (hk : CartCell k) (a : Word) (v : Byte) (s : State) :
    (memWrite a v s).mem.get k = s.mem.get k := by
  have hpoke (ha : regionOf a ∈ storedRegions) : (pokeCell (cellOf a) v s).mem.get k = s.mem.get k :=
    Memory.get_set_of_ne s.mem v (ne_cellOf_of_cartCell hk ha)
  unfold memWrite
  split
  · rfl
  unfold busWrite
  cases hr : regionOf a
  case vram | wram | echo | hram => exact hpoke (by rw [hr]; decide)
  case oam =>
    dsimp only
    split
    · rfl
    · exact hpoke (by rw [hr]; decide)
  case io =>
    dsimp only
    by_cases hdma : ioRegOf a = .dma
    · simp only [ioWrite, hdma]
      exact writeDma_get_of_cartCell hk v s
    · rw [ioWrite_of_ne_dma hdma, ioWriteReg_mem]
  case bootPage | cartRom | cartRam | unusable | ie => rfl

theorem ioWriteReg_boot (v : Byte) (s : State) (r : IoReg) (h : s.bootDisabled = true) :
    (ioWriteReg v s r).bootDisabled = true := by
  by_cases hr : r = .boot
  · subst hr
    exact ite_elim (P := fun t : State => t.bootDisabled = true) (fun _ => h) fun _ => rfl
  · exact (ioWriteReg_bootDisabled v s hr).trans h

/-- No write clears the boot latch (10_state R49). -/
theorem memWrite_boot (a : Word) (v : Byte) {s : State} (h : s.bootDisabled = true) :
    (memWrite a v s).bootDisabled = true :=
  memWrite_induct (P := fun t => t.bootDisabled = true) h (fun _ _ => h) (fun _ _ _ ht => ht) (fun _ => h)
    (fun v r => ioWriteReg_boot v s r h) (fun _ _ => h) a v

theorem memWrite_cartWrites (a : Word) (v : Byte) (s : State) :
    ∃ ws, (memWrite a v s).cartWrites = ws ++ s.cartWrites :=
  memWrite_induct (P := fun t => ∃ ws, t.cartWrites = ws ++ s.cartWrites) ⟨[], rfl⟩ (fun a v => ⟨[(a, v)], rfl⟩)
    (fun _ _ _ ht => ht) (fun _ => ⟨[], rfl⟩) (fun v r => ⟨[], ioWriteReg_cartWrites v s r⟩) (fun _ _ => ⟨[], rfl⟩) a v

theorem stepKeeps_memWrite (a : Word) (v : Byte) (s : State) : StepKeeps s (memWrite a v s) :=
  ⟨memWrite_cfg a v s, memWrite_boot a v, memWrite_cartWrites a v s, fun _ hk => memWrite_get_of_cartCell hk a v s⟩

/-! ### The devices -/

theorem stepKeeps_dmaMCycle (s : State) : StepKeeps s (dmaMCycle s) := by
  refine ⟨(sameCore_dmaMCycle s).cfg, (dmaMCycle_bootDisabled s).trans, ⟨[], dmaMCycle_cartWrites s⟩, fun k hk => ?_⟩
  rw [dmaMCycle_eq]
  split
  · exact Memory.get_set_of_ne _ _ (ne_oamCell_of_cartCell hk _)
  · rfl

theorem stepKeeps_runDevices (s : State) : StepKeeps s (runDevices s) :=
  runDevices_induct (P := StepKeeps s)
    (fun t ht => ht.trans (stepKeeps_of_eq (sameCore_ppuTick t).cfg (ppuTick_bootDisabled t) (ppuTick_cartWrites t)
      (ppuTick_mem t)))
    (fun t ht => ht.trans (stepKeeps_of_eq (sameCore_timerMCycle t).cfg (timerMCycle_bootDisabled t)
      (timerMCycle_cartWrites t) (timerMCycle_mem t)))
    (fun t ht => ht.trans (stepKeeps_dmaMCycle t)) (fun _ _ ht => ht.trans (stepKeeps_of_eq rfl rfl rfl rfl)) s
    (stepKeeps_of_eq rfl rfl rfl rfl)

/-! ### The CPU step -/

/-- The CPU step leaves the clock and the queue besides. -/
structure CpuStepKeeps (s t : State) : Prop extends StepKeeps s t where
  cycles : t.cycles = s.cycles
  inputs : t.inputs = s.inputs

theorem CpuStepKeeps.trans {s t u : State} (h : CpuStepKeeps s t) (k : CpuStepKeeps t u) : CpuStepKeeps s u :=
  ⟨h.toStepKeeps.trans k.toStepKeeps, k.cycles.trans h.cycles, k.inputs.trans h.inputs⟩

/-- A change outside the memory, the cartridge's writes, the latch, the parameters, the clock and the queue. -/
theorem cpuStepKeeps_of_frame {s t : State}
    (h : t = { s with
      cpu := t.cpu, irq := t.irq, timer := t.timer, elapsed := t.elapsed, diagnostic := t.diagnostic }) :
    CpuStepKeeps s t := by
  rw [h]
  exact ⟨stepKeeps_of_eq rfl rfl rfl rfl, rfl, rfl⟩

theorem OnlyStores.cpuStepKeeps {as : List Word} {s t : State} (h : OnlyStores as s t) : CpuStepKeeps s t := by
  obtain ⟨⟨ws, -, ht⟩, -, -⟩ := h
  have hstores : StepKeeps s (storeAll ws s) :=
    storeAll_induct (P := StepKeeps s) (fun a v u hu => hu.trans (stepKeeps_memWrite a v u)) ws
      (stepKeeps_of_eq rfl rfl rfl rfl)
  have hsame := sameCore_storeAll ws s
  rw [ht]
  exact ⟨hstores.trans (stepKeeps_of_eq rfl rfl rfl rfl), hsame.cycles, hsame.inputs⟩

theorem cpuStepKeeps_exec {i : Instr} {s t : State} (h : exec i s = .next t) : CpuStepKeeps s t := by
  rcases exec_cases h with hstores | ⟨-, h⟩ | ⟨n, -, h⟩ | ⟨p, -, -, h⟩
  · exact hstores.cpuStepKeeps
  · exact cpuStepKeeps_of_frame (by rw [halt_frame h])
  · exact cpuStepKeeps_of_frame (by rw [(stop_frame h).1])
  · exact cpuStepKeeps_of_frame (by rw [undefinedOpcode_frame h])

/-- An interrupt entry stores by its push alone, and takes 5 M-cycles (60_exceptions R430). -/
theorem cpuStepKeeps_serviceInterrupt (s : State) :
    CpuStepKeeps s (serviceInterrupt s) ∧ (serviceInterrupt s).elapsed = 5 := by
  obtain ⟨p, hp⟩ : ∃ p, p = push16 (if s.cpu.haltBug then s.cpu.pc - 1 else s.cpu.pc)
      (onCpu (fun k => { k with haltBug := false }) s) := ⟨_, rfl⟩
  have hpush : CpuStepKeeps s p := by
    rw [hp]
    exact (cpuStepKeeps_of_frame rfl).trans (OnlyStores.push16 _ _).cpuStepKeeps
  cases hfirst : firstSource (pendingSet p) with
  | none =>
    rw [serviceInterrupt_of_none hp hfirst]
    exact ⟨hpush.trans (cpuStepKeeps_of_frame rfl), rfl⟩
  | some src =>
    rw [serviceInterrupt_of_source hp hfirst]
    exact ⟨hpush.trans (cpuStepKeeps_of_frame rfl), rfl⟩

theorem cpuStepKeeps_fetchInstr (s : State) : CpuStepKeeps s (fetchInstr s).2 := by
  rw [fetchInstr_snd]
  exact cpuStepKeeps_of_frame rfl

/-- The CPU step of every state goes on, after 1 to 6 M-cycles (60_exceptions R426). -/
theorem cpuStep_completes (s : State) :
    ∃ u, CpuStepLeaves s u ∧ CpuStepKeeps s u ∧ 1 ≤ u.elapsed ∧ u.elapsed ≤ 6 := by
  have hawake : CpuStepKeeps s (onCpu (fun k => { k with mode := .running }) s) := cpuStepKeeps_of_frame rfl
  rcases beginStep_cases s with ⟨hbegin, -⟩ | ⟨hbegin, -⟩ | ⟨hbegin, -⟩
  · exact ⟨_, .inl hbegin, cpuStepKeeps_of_frame rfl, Nat.le_refl 1, Nat.le_add_right 1 5⟩
  · obtain ⟨hkeeps, helapsed⟩ := cpuStepKeeps_serviceInterrupt (onCpu (fun k => { k with mode := .running }) s)
    exact ⟨_, .inl hbegin, hawake.trans hkeeps, by omega, by omega⟩
  · obtain ⟨v, hexec, hcount⟩ := exec_completes (fetchInstr (onCpu (fun k => { k with mode := .running }) s)).1
      (fetchInstr (onCpu (fun k => { k with mode := .running }) s)).2
    have hkeeps := (hawake.trans (cpuStepKeeps_fetchInstr _)).trans (cpuStepKeeps_exec hexec)
    exact ⟨advanceEiDelay v, .inr ⟨_, v, hbegin, hexec, rfl⟩, hkeeps.trans (cpuStepKeeps_of_frame rfl), hcount⟩

/-! ### The whole step -/

theorem step_of_cpuStepLeaves {s u : State} (h : CpuStepLeaves (hostPhase s) u) : step s = .next (runDevices u) := by
  rcases h with hover | ⟨b, v, hfetch, hexec, rfl⟩
  · exact step_of_over hover
  · exact step_of_fetch hfetch hexec

theorem sameCore_devicesAfter (u : State) (n : Nat) : SameCore u (devicesAfter u n) := by
  rw [← repeatN_deviceMCycle]
  exact sameCore_repeatN sameCore_deviceMCycle n u

/-- Settles O18: the host's calls, the CPU step and the devices, each keeping what a step never changes. -/
theorem stepAlwaysGoesOn : Obligations.StepAlwaysGoesOn := by
  unfold Obligations.StepAlwaysGoesOn
  intro s
  obtain ⟨u, hleaves, hcpu, hpos, hle⟩ := cpuStep_completes (hostPhase s)
  have hcycles : u.cycles = s.cycles := hcpu.cycles.trans (hostPhase_cycles s)
  have hinputs : u.inputs = s.inputs.tail := hcpu.inputs.trans (hostPhase_inputs s)
  have hkeeps : StepKeeps s (runDevices u) :=
    ((stepKeeps_hostPhase s).trans hcpu.toStepKeeps).trans (stepKeeps_runDevices u)
  have hframe := devicesFrame_runDevices u
  have hrun : runDevices u = { devicesAfter u u.elapsed with cycles := s.cycles + 4 * u.elapsed } := by
    rw [runDevices_eq, (sameCore_devicesAfter u u.elapsed).cycles, hcycles]
  refine ⟨u, runDevices u, hleaves, step_of_cpuStepLeaves hleaves, hrun, hframe.elapsed, ?_, ?_, ?_, hkeeps.cfg,
    hframe.inputs.trans hinputs, hkeeps.boot, hkeeps.cartWrites, hkeeps.contents⟩
  · rwa [hframe.elapsed]
  · rwa [hframe.elapsed]
  · rw [hframe.cycles, hframe.elapsed, hcycles]

end Sys2Proof.Proofs
end

section
/-! PROOFS. The timer (61_timer R470-R478): one M-cycle, the writes to its registers, and the rate of `TIMA`. -/

namespace Sys2Proof.Proofs
open Sys2Proof.Machine

/-! ### One M-cycle (R472, R473) -/

/-- `Sel` by the number of `TAC[1:0]` (R471). -/
theorem timerBit_eq (tac : BitVec 3) :
    timerBit tac =
      if tac.toNat % 4 = 0 then 9 else if tac.toNat % 4 = 1 then 3 else if tac.toNat % 4 = 2 then 5 else 7 := by
  revert tac
  decide

theorem byte_add_one_beq_zero (v : Byte) : (v + 1 == 0) = decide (v = 0xFF) := by
  revert v
  decide

/-- Steps 2 to 4: the divider, the sample, and the count of a falling edge. -/
theorem timer_advance_eq (t : Timer) {sample edge : Bool} (hsample : sample = timerSignal t.tac (t.divCounter + 4))
    (hedge : edge = (t.prevSample && !sample)) :
    t.advance =
      { t with
        divCounter := t.divCounter + 4, tima := if edge then t.tima + 1 else t.tima, prevSample := sample
        overflowPending := t.overflowPending || (edge && decide (t.tima = 0xFF)) } := by
  simp only [Timer.advance, Timer.increment, ← hsample, ← hedge, byte_add_one_beq_zero]
  cases edge <;> simp

/-- Settles O48: the reload clears the mark, so that only the falling edge's overflow can set it. -/
theorem timerCycle : Obligations.TimerCycle := by
  unfold Obligations.TimerCycle
  rintro s base div sample edge rfl rfl hsample hedge
  rw [← timerBit_eq, ← timerSignal] at hsample
  rw [timerMCycle_eq]
  cases hpending : s.timer.overflowPending with
  | false => simp [timer_advance_eq s.timer hsample hedge, hpending]
  | true =>
    simp [timer_advance_eq { s.timer with tima := s.timer.tma, overflowPending := false } hsample hedge]

/-! ### The registers (R475-R478) -/

/-- A write to `TAC` counts the falling edge it makes (R477). -/
theorem writeTac_eq (v : Byte) (t : Timer) {old new : Bool} (hold : old = timerSignal t.tac t.divCounter)
    (hnew : new = timerSignal (v.extractLsb' 0 3) t.divCounter) :
    t.writeTac v =
      { t with
        tac := v.extractLsb' 0 3, prevSample := new
        tima := if old = true ∧ new = false then t.tima + 1 else t.tima
        overflowPending := if old = true ∧ new = false ∧ t.tima = 0xFF then true else t.overflowPending } := by
  simp only [Timer.writeTac, Timer.increment, ← hold, ← hnew, byte_add_one_beq_zero]
  cases old <;> cases new <;> simp [Bool.or_comm]

/-- Settles O49: each write by its register, `TAC`'s by `writeTac_eq`. -/
theorem timerWrites : Obligations.TimerWrites := by
  unfold Obligations.TimerWrites
  intro s v old new hidle hold hnew
  refine ⟨memWrite_ioReg hidle rfl (by decide) v, memWrite_ioReg hidle rfl (by decide) v,
    memWrite_ioReg hidle rfl (by decide) v, ?_⟩
  rw [memWrite_ioReg hidle rfl (by decide), ← writeTac_eq v s.timer hold hnew]
  rfl

/-! ### The rate (R471, R472) -/

theorem timerBit_cases (tac : BitVec 3) :
    timerBit tac = 3 ∨ timerBit tac = 5 ∨ timerBit tac = 7 ∨ timerBit tac = 9 := by
  revert tac
  decide

theorem word_getLsbD_eq (w : Word) (n : Nat) : w.getLsbD n = decide (w.toNat / 2 ^ n % 2 = 1) := by
  rw [BitVec.getLsbD, Nat.testBit_eq_decide_div_mod_eq]

/-- The increments due after so many T-cycles of the divider. -/
def timerCount (tac : BitVec 3) (cycles : Nat) : Nat := cycles / 2 ^ (timerBit tac + 1)

theorem timerCount_le {m n : Nat} (h : m ≤ n) (tac : BitVec 3) : timerCount tac m ≤ timerCount tac n :=
  Nat.div_le_div_right h

theorem divCounter_add_four {div : Word} {cycles : Nat} (hdiv : div.toNat = cycles % 65536) :
    (div + 4).toNat = (cycles + 4) % 65536 := by
  rw [BitVec.toNat_add, hdiv]
  exact Nat.mod_add_mod ..

/-- The selected bit falls when an increment comes due, at most one in an M-cycle, also where the divider wraps. -/
theorem timerCount_add_four (tac : BitVec 3) {div : Word} {cycles : Nat} (hdiv : div.toNat = cycles % 65536) :
    timerCount tac (cycles + 4) =
      timerCount tac cycles + (div.getLsbD (timerBit tac) && !(div + 4).getLsbD (timerBit tac)).toNat := by
  simp only [word_getLsbD_eq, hdiv, divCounter_add_four hdiv, timerCount, Bool.toNat, Bool.cond_eq_ite,
    Bool.and_eq_true, Bool.not_eq_true', decide_eq_true_eq, decide_eq_false_iff_not]
  rcases timerBit_cases tac with h | h | h | h <;> rw [h] <;> split <;> omega

/-- An enabled timer that has sampled its signal and waits for no reload. -/
structure TimerCounts (t : Timer) : Prop where
  enabled : t.tac.getLsbD 2 = true
  sampled : t.prevSample = timerSignal t.tac t.divCounter
  noReload : t.overflowPending = false

/-- It counts the increment that comes due, if there is no overflow, and goes on so. -/
theorem timer_advance_counts {t : Timer} (h : TimerCounts t) {cycles : Nat} (hdiv : t.divCounter.toNat = cycles % 65536)
    (hmax : t.tima.toNat + timerCount t.tac (cycles + 4) ≤ 255 + timerCount t.tac cycles) :
    TimerCounts t.advance ∧ t.advance.tac = t.tac ∧ t.advance.divCounter.toNat = (cycles + 4) % 65536 ∧
    t.advance.tima.toNat + timerCount t.tac cycles = t.tima.toNat + timerCount t.tac (cycles + 4) := by
  obtain ⟨henabled, hsampled, hnoReload⟩ := h
  obtain ⟨edge, hedge⟩ : ∃ edge, edge = (t.prevSample && !timerSignal t.tac (t.divCounter + 4)) := ⟨_, rfl⟩
  have hcount : timerCount t.tac (cycles + 4) = timerCount t.tac cycles + edge.toNat := by
    rw [timerCount_add_four t.tac hdiv, hedge, hsampled, timerSignal, timerSignal, henabled, Bool.true_and,
      Bool.true_and]
  rw [timer_advance_eq t rfl hedge, hnoReload]
  cases edge with
  | false => exact ⟨⟨henabled, rfl, rfl⟩, rfl, divCounter_add_four hdiv, by rw [hcount]; rfl⟩
  | true =>
    have hlt : t.tima.toNat < 255 := by
      rw [hcount, Bool.toNat_true] at hmax
      omega
    have hne : t.tima ≠ 0xFF := by bv_omega
    have hsum : (t.tima + 1).toNat = t.tima.toNat + 1 := by bv_omega
    refine ⟨⟨henabled, rfl, decide_eq_false hne⟩, rfl, divCounter_add_four hdiv, ?_⟩
    rw [hcount, Bool.toNat_true, if_pos rfl, hsum]
    omega

/-- `t` is `s` after its timer counted on for `n` M-cycles. -/
structure CountedOn (n : Nat) (s t : State) : Prop where
  counts : TimerCounts t.timer
  tac : t.timer.tac = s.timer.tac
  divCounter : t.timer.divCounter.toNat = (s.timer.divCounter.toNat + 4 * n) % 65536
  tima : t.timer.tima.toNat + timerCount s.timer.tac s.timer.divCounter.toNat =
    s.timer.tima.toNat + timerCount s.timer.tac (s.timer.divCounter.toNat + 4 * n)
  irq : t.irq = s.irq

theorem timerMCycle_of_noReload {s : State} (h : s.timer.overflowPending = false) :
    timerMCycle s = { s with timer := s.timer.advance } := by
  rw [timerMCycle, h]
  rfl

theorem countedOn_repeatN {s : State} (hs : TimerCounts s.timer) (n : Nat)
    (hmax : s.timer.tima.toNat + timerCount s.timer.tac (s.timer.divCounter.toNat + 4 * n) ≤
      255 + timerCount s.timer.tac s.timer.divCounter.toNat) :
    CountedOn n s (repeatN n timerMCycle s) := by
  induction n with
  | zero => exact ⟨hs, rfl, (Nat.mod_eq_of_lt s.timer.divCounter.isLt).symm, rfl, rfl⟩
  | succ n ih =>
    have hle := timerCount_le (Nat.le_add_right (s.timer.divCounter.toNat + 4 * n) 4) s.timer.tac
    have hnext : s.timer.divCounter.toNat + 4 * (n + 1) = s.timer.divCounter.toNat + 4 * n + 4 := by omega
    rw [hnext] at hmax
    obtain ⟨hcounts, htac, hdiv, htima, hirq⟩ := ih (by omega)
    obtain ⟨hcounts', htac', hdiv', htima'⟩ := timer_advance_counts hcounts hdiv (by rw [htac]; omega)
    rw [repeatN_succ, timerMCycle_of_noReload hcounts.noReload]
    rw [htac] at htac' htima'
    exact ⟨hcounts', htac', by rw [hnext, hdiv'], by rw [hnext]; dsimp only; omega, hirq⟩

/-- Settles O50, by induction on the M-cycles: `TIMA` counts the increments due so far. -/
theorem timaRate : Obligations.TimaRate := by
  unfold Obligations.TimaRate
  rintro s n sel crossed henabled rfl hsampled hnoReload rfl hmax
  have hle := timerCount_le (Nat.le_add_right s.timer.divCounter.toNat (4 * n)) s.timer.tac
  have hcount (cycles : Nat) : cycles / 2 ^ (timerBit s.timer.tac + 1) = timerCount s.timer.tac cycles := rfl
  rw [hcount, hcount] at hmax ⊢
  have hcounted := countedOn_repeatN ⟨henabled, hsampled, hnoReload⟩ n (by omega)
  have htima := hcounted.tima
  exact ⟨by omega, hcounted.irq⟩

end Sys2Proof.Proofs
end

section
/-! PROOFS. The joypad and the serial link (62_serial_joypad R500-R514). -/

namespace Sys2Proof.Proofs
open Sys2Proof.Machine

/-! ### The lines of `P1` (R510) -/

theorem keyLines_toNat (k3 k2 k1 k0 : Bool) :
    (keyLines k3 k2 k1 k0).toNat = 15 - (k0.toNat + 2 * k1.toNat + 4 * k2.toNat + 8 * k3.toNat) := by
  revert k3 k2 k1 k0
  decide

/-- The visible lines as a number, by the row selected. -/
theorem joypad_lines_toNat (j : Joypad) :
    j.lines.toNat =
      if j.select.getLsbD 1 = false ∧ j.select.getLsbD 0 = true then
        15 - (j.buttons.a.toNat + 2 * j.buttons.b.toNat + 4 * j.buttons.select.toNat + 8 * j.buttons.start.toNat)
      else if j.select.getLsbD 0 = false ∧ j.select.getLsbD 1 = true then
        15 - (j.buttons.right.toNat + 2 * j.buttons.left.toNat + 4 * j.buttons.up.toNat + 8 * j.buttons.down.toNat)
      else 15 := by
  unfold Joypad.lines
  cases j.select.getLsbD 1 <;> cases j.select.getLsbD 0 <;> simp [keyLines_toNat]

/-- `P1` as a number (10_state R33). -/
theorem joypad_read_toNat (j : Joypad) :
    j.read.toNat = 0xC0 + 32 * (j.select.getLsbD 1).toNat + 16 * (j.select.getLsbD 0).toNat + j.lines.toNat := by
  unfold Joypad.read
  generalize j.lines = lines
  generalize j.select = select
  revert select lines
  decide

theorem joypad_read_getLsbD (j : Joypad) {n : Nat} (hn : n < 4) : j.read.getLsbD n = j.lines.getLsbD n := by
  rw [Joypad.read, BitVec.getLsbD_append, if_pos hn]

theorem memRead_p1 {s : State} (hidle : s.dma.active = false) : memRead s 0xFF00 = s.joypad.read :=
  memRead_ioReg hidle rfl

/-! ### The joypad interrupt (R513) -/

theorem falling_line_iff (old new : BitVec 4) :
    (old &&& ~~~new != 0) = true ↔ ∃ n : Nat, n < 4 ∧ old.getLsbD n = true ∧ new.getLsbD n = false := by
  revert old new
  decide

/-- The interrupt is requested exactly when a visible line falls. -/
theorem joypadRequest {s t : State} (hs : s.dma.active = false) (ht : t.dma.active = false)
    (hflag : t.irq.flag =
      if s.joypad.lines &&& ~~~t.joypad.lines != 0 then s.irq.flag ||| 0b10000 else s.irq.flag) :
    (t.irq.flag = s.irq.flag ||| 0b10000 ∨ t.irq.flag = s.irq.flag) ∧
    (t.irq.flag.getLsbD 4 = true ↔ s.irq.flag.getLsbD 4 = true ∨
      ∃ n : Nat, n < 4 ∧ (memRead s 0xFF00).getLsbD n = true ∧ (memRead t 0xFF00).getLsbD n = false) := by
  have hbit : ∀ flag : BitVec 5, (flag ||| 0b10000).getLsbD 4 = true := by decide
  have hfalls : (s.joypad.lines &&& ~~~t.joypad.lines != 0) = true ↔
      ∃ n : Nat, n < 4 ∧ (memRead s 0xFF00).getLsbD n = true ∧ (memRead t 0xFF00).getLsbD n = false := by
    rw [falling_line_iff, memRead_p1 hs, memRead_p1 ht]
    exact exists_congr fun n => and_congr_right fun hn => by rw [joypad_read_getLsbD _ hn, joypad_read_getLsbD _ hn]
  rw [← hfalls, hflag]
  split
  · rename_i hfall
    exact ⟨.inl rfl, iff_of_true (hbit _) (.inr hfall)⟩
  · rename_i hfall
    exact ⟨.inr rfl, (or_iff_left hfall).symm⟩

/-- A write to `P1` stores the selection and requests the interrupt if a visible line falls (R514). -/
theorem writeP1_eq (v : Byte) (s : State) :
    writeP1 v s =
      let j := { s.joypad with select := v.extractLsb' 4 2 }
      { s with
        irq := { s.irq with
          flag := if s.joypad.lines &&& ~~~j.lines != 0 then s.irq.flag ||| 0b10000 else s.irq.flag }
        joypad := j } := by
  simp only [writeP1, joypadEdge, requestIf_eq]
  rfl

/-- Settles O58: the read is `joypad_read_toNat` after the write of `writeP1_eq`, the request `joypadRequest`. -/
theorem joypadRegister : Obligations.JoypadRegister := by
  unfold Obligations.JoypadRegister
  intro s t v hidle ht
  have hwrite : t = writeP1 v s := ht.trans (memWrite_ioReg hidle rfl (by decide) v)
  rw [writeP1_eq] at hwrite
  have hidle' : t.dma.active = false := by rw [hwrite]; exact hidle
  obtain ⟨hflag, hbit⟩ := joypadRequest hidle hidle' (by rw [hwrite])
  have h5 : (v.extractLsb' 4 2).getLsbD 1 = v.getLsbD 5 := by simp
  have h4 : (v.extractLsb' 4 2).getLsbD 0 = v.getLsbD 4 := by simp
  refine ⟨?_, by rw [hwrite], by rw [hwrite], hflag, hbit⟩
  rw [memRead_p1 hidle', joypad_read_toNat, joypad_lines_toNat, hwrite]
  simp only [h5, h4]

/-! ### The host's calls (R511, R512) -/

theorem buttons_get_set (k : Buttons) (which : Button) (p : Bool) (key : Button) :
    (k.set which p).get key = if key = which then p else k.get key := by
  cases which <;> cases key <;> rfl

/-- Settles O59: the queue by `hostPhase_of_nil` and `hostPhase_of_cons`, one call by `setButton_eq`. -/
theorem setButton : Obligations.SetButton := by
  unfold Obligations.SetButton
  refine ⟨fun _ => hostPhase_of_nil, fun _ _ _ => hostPhase_of_cons, fun s t ev hidle ht => ?_⟩
  rw [setButton_eq] at ht
  have hidle' : t.dma.active = false := by rw [ht]; exact hidle
  obtain ⟨hflag, hbit⟩ := joypadRequest hidle hidle' (by rw [ht])
  refine ⟨fun key => ?_, by rw [ht], ?_, by rw [ht], hflag, hbit⟩
  · rw [ht]
    exact buttons_get_set s.joypad.buttons ev.button ev.pressed key
  rw [ht]
  simp only [Bool.and_eq_true, Bool.not_eq_true', beq_iff_eq, and_assoc]

/-! ### The serial link (R501-R503) -/

/-- Settles O60: the write to `SC` by its two bits. -/
theorem serialExchange : Obligations.SerialExchange := by
  unfold Obligations.SerialExchange
  intro s v hidle
  have hwrite : memWrite 0xFF02 v s = writeSc v s := memWrite_ioReg hidle rfl (by decide) v
  refine ⟨fun h7 h0 => ?_, fun habsent => ?_, fun hattached => ?_, fun hstores => ?_⟩
  · rw [hwrite, writeSc, if_pos (by rw [h7, h0]; rfl)]
    rfl
  · rw [serialReply, habsent]
  · rw [serialReply, hattached]
  · have hnot : ¬(v.getLsbD 7 && v.getLsbD 0) = true := by
      rcases hstores with h | h <;> simp only [h, Bool.false_and, Bool.and_false, Bool.false_eq_true, not_false_eq_true]
    rw [hwrite, writeSc, if_neg hnot]

end Sys2Proof.Proofs
end

section
/-! PROOFS. The scanline machine (63_ppu R530-R545): where a tick moves the PPU and which interrupts it requests, what
it leaves alone, and the LCD's switch. -/

namespace Sys2Proof.Proofs
open Sys2Proof.Machine

/-! ### What a tick does (R532-R538) -/

/-- Where a tick from `s` leaves the PPU, and whether it requests the V-blank and the STAT interrupt. -/
structure TickLeaves (s t : State) (ly : Byte) (dot : Nat) (mode : PpuMode) (coincidence vblank stat : Bool) :
    Prop where
  ly : t.ppu.ly = ly
  dot : t.ppu.dot = dot
  mode : t.ppu.mode = mode
  coincidence : t.ppu.coincidence = coincidence
  flag : ∀ n, t.irq.flag.getLsbD n =
    (s.irq.flag.getLsbD n || (vblank && IrqSource.vblank.mask.getLsbD n) ||
      (stat && IrqSource.lcdStat.mask.getLsbD n))

theorem requestIf_getLsbD (b : Bool) (k : IrqSource) (s : State) (n : Nat) :
    (requestIf b k s).irq.flag.getLsbD n = (s.irq.flag.getLsbD n || (b && k.mask.getLsbD n)) := by
  cases b <;> simp

theorem request_getLsbD (k : IrqSource) (s : State) (n : Nat) :
    (request k s).irq.flag.getLsbD n = (s.irq.flag.getLsbD n || k.mask.getLsbD n) := BitVec.getLsbD_or

theorem setMode_getLsbD (m : PpuMode) (s : State) (n : Nat) :
    (setMode m s).irq.flag.getLsbD n =
      (s.irq.flag.getLsbD n || (s.ppu.modeEnabled m && IrqSource.lcdStat.mask.getLsbD n)) :=
  requestIf_getLsbD _ _ _ n

theorem lyChanged_getLsbD (s : State) (n : Nat) :
    (lyChanged s).irq.flag.getLsbD n =
      (s.irq.flag.getLsbD n ||
        ((decide (s.ppu.ly = s.ppu.lyc) && s.ppu.statEnables.getLsbD 3) && IrqSource.lcdStat.mask.getLsbD n)) :=
  requestIf_getLsbD _ _ _ n

theorem composeLine_irq (y : Nat) (s : State) : (composeLine y s).irq = s.irq := rfl

theorem byte_lt_144 (v : Byte) : v < 144 ↔ v.toNat < 144 := by simp [BitVec.lt_def]

/-- While the LCD is off a tick does nothing (R545). -/
theorem ppuTick_of_off {s : State} (hoff : s.ppu.lcdc.getLsbD 7 = false) : ppuTick s = s := by
  rw [ppuTick, hoff]
  rfl

/-- A tick within a line: the dot, and the mode at dots 80 and 252 of a visible line (R532, R535). -/
theorem tickLeaves_within_line {s : State} (hon : s.ppu.lcdc.getLsbD 7 = true) (hdot : s.ppu.dot ≠ 455) :
    TickLeaves s (ppuTick s) s.ppu.ly (s.ppu.dot + 1)
      (if s.ppu.ly.toNat < 144 ∧ s.ppu.dot = 79 then .drawing
      else if s.ppu.ly.toNat < 144 ∧ s.ppu.dot = 251 then .hblank else s.ppu.mode)
      s.ppu.coincidence false
      (decide (s.ppu.ly.toNat < 144 ∧ s.ppu.dot = 251) && s.ppu.statEnables.getLsbD 0) := by
  have h80 : s.ppu.dot + 1 = 80 ↔ s.ppu.dot = 79 := by omega
  have h252 : s.ppu.dot + 1 = 252 ↔ s.ppu.dot = 251 := by omega
  unfold ppuTick
  rw [hon]
  dsimp only
  rw [if_neg (by decide), if_neg (by omega)]
  simp only [byte_lt_144, h80, h252]
  by_cases hdraw : s.ppu.ly.toNat < 144 ∧ s.ppu.dot = 79
  · have hnot : ¬(s.ppu.ly.toNat < 144 ∧ s.ppu.dot = 251) := by omega
    rw [if_pos hdraw, if_pos hdraw, decide_eq_false hnot]
    constructor
    case flag =>
      intro n
      rw [composeLine_irq, setMode_getLsbD]
      simp [Ppu.modeEnabled]
    all_goals simp [composeLine_ppu, setMode_eq]
  · rw [if_neg hdraw, if_neg hdraw]
    by_cases hblank : s.ppu.ly.toNat < 144 ∧ s.ppu.dot = 251
    · rw [if_pos hblank, if_pos hblank, decide_eq_true hblank]
      constructor
      case flag =>
        intro n
        rw [setMode_getLsbD]
        simp [Ppu.modeEnabled]
      all_goals simp [setMode_eq]
    · rw [if_neg hblank, if_neg hblank, decide_eq_false hblank]
      exact ⟨rfl, rfl, rfl, rfl, fun n => by simp⟩

/-- The line after a line. -/
def lineAfter (ly : Byte) : Byte := if ly + 1 = 154 then 0 else ly + 1

theorem lineAfter_toNat {ly : Byte} (h : ly.toNat ≤ 153) :
    (lineAfter ly).toNat = if ly.toNat = 153 then 0 else ly.toNat + 1 := by
  have h154 : ly + 1 = 154 ↔ ly.toNat = 153 := by bv_omega
  simp only [lineAfter, h154]
  split
  · rfl
  · bv_omega

/-- The next line with its coincidence, before its mode (R534, R538). -/
def atNextLine (s : State) : State :=
  lyChanged
    { s with
      ppu :=
        { s.ppu with
          dot := 0, ly := lineAfter s.ppu.ly
          windowLine := if s.ppu.ly + 1 = 154 then 0 else s.ppu.windowLine } }

theorem nextLine_eq (s : State) :
    nextLine s =
      if (atNextLine s).ppu.ly = 144 then request .vblank (setMode .vblank (atNextLine s))
      else if (atNextLine s).ppu.ly < 144 then setMode .oamScan (atNextLine s) else atNextLine s := rfl

theorem atNextLine_ppu (s : State) :
    (atNextLine s).ppu =
      { s.ppu with
        dot := 0, ly := lineAfter s.ppu.ly, coincidence := decide (lineAfter s.ppu.ly = s.ppu.lyc)
        windowLine := if s.ppu.ly + 1 = 154 then 0 else s.ppu.windowLine } := by
  rw [atNextLine, lyChanged_eq]

theorem ppuTick_of_dot_455 {s : State} (hon : s.ppu.lcdc.getLsbD 7 = true) (hdot : s.ppu.dot = 455) :
    ppuTick s = nextLine s := by
  simp only [ppuTick, hon, hdot, Bool.not_true, Bool.false_eq_true, if_false, if_true]

/-- A tick that ends a line: dot 0 of the next one, its coincidence, and the mode it starts in (R532, R534, R538). -/
theorem tickLeaves_end_of_line {s : State} (hon : s.ppu.lcdc.getLsbD 7 = true) (hdot : s.ppu.dot = 455) :
    TickLeaves s (ppuTick s) (lineAfter s.ppu.ly) 0
      (if lineAfter s.ppu.ly = 144 then .vblank else if lineAfter s.ppu.ly < 144 then .oamScan else s.ppu.mode)
      (decide (lineAfter s.ppu.ly = s.ppu.lyc))
      (decide (lineAfter s.ppu.ly = 144))
      (decide (lineAfter s.ppu.ly = s.ppu.lyc) && s.ppu.statEnables.getLsbD 3 ||
        (decide (lineAfter s.ppu.ly = 144) && s.ppu.statEnables.getLsbD 1 ||
          decide (lineAfter s.ppu.ly < 144) && s.ppu.statEnables.getLsbD 2)) := by
  have hchanged (n : Nat) : (atNextLine s).irq.flag.getLsbD n =
      (s.irq.flag.getLsbD n || ((decide (lineAfter s.ppu.ly = s.ppu.lyc) && s.ppu.statEnables.getLsbD 3) &&
        IrqSource.lcdStat.mask.getLsbD n)) := lyChanged_getLsbD _ n
  rw [ppuTick_of_dot_455 hon hdot]
  constructor
  case flag =>
    intro n
    rw [nextLine_eq, atNextLine_ppu]
    by_cases h144 : lineAfter s.ppu.ly = 144
    · have hlt : ¬lineAfter s.ppu.ly < 144 := by rw [h144]; decide
      rw [if_pos h144, request_getLsbD, setMode_getLsbD, hchanged, atNextLine_ppu, decide_eq_true h144,
        decide_eq_false hlt]
      simp only [Ppu.modeEnabled, Bool.true_and, Bool.false_and, Bool.or_false, Bool.and_or_distrib_right]
      ac_rfl
    · rw [if_neg h144, decide_eq_false h144]
      by_cases hlt : lineAfter s.ppu.ly < 144
      · rw [if_pos hlt, setMode_getLsbD, hchanged, atNextLine_ppu, decide_eq_true hlt]
        simp only [Ppu.modeEnabled, Bool.true_and, Bool.false_and, Bool.or_false, Bool.false_or,
          Bool.and_or_distrib_right]
        ac_rfl
      · rw [if_neg hlt, hchanged, decide_eq_false hlt]
        simp only [Bool.false_and, Bool.or_false]
  all_goals rw [nextLine_ppu]
  all_goals rfl

/-! ### The frame (R531-R534, R537) -/

theorem ppuTick_lcdc (s : State) : (ppuTick s).ppu.lcdc = s.ppu.lcdc := by rw [(tickFrame_ppuTick s).ppu]

theorem lineAfter_eq_144_iff {ly : Byte} (h : ly.toNat ≤ 153) : lineAfter ly = 144 ↔ ly.toNat = 143 := by
  have h144 : (144 : Byte).toNat = 144 := rfl
  rw [← BitVec.toNat_inj, lineAfter_toNat h, h144]
  split <;> omega

theorem lineAfter_lt_144_iff {ly : Byte} (h : ly.toNat ≤ 153) :
    lineAfter ly < 144 ↔ ly.toNat < 143 ∨ ly.toNat = 153 := by
  rw [byte_lt_144, lineAfter_toNat h]
  split <;> omega

/-- Within a line the table's mode changes at dots 80 and 252 of a visible line. -/
theorem modeAt_succ (ly dot : Nat) :
    modeAt ly (dot + 1) =
      if ly < 144 ∧ dot = 79 then .drawing else if ly < 144 ∧ dot = 251 then .hblank else modeAt ly dot := by
  unfold modeAt
  grind

/-- The last dot of a line is in H-blank or in V-blank. -/
theorem modeAt_455 (ly : Nat) : modeAt ly 455 = if ly < 144 then .hblank else .vblank := by
  unfold modeAt
  grind

/-- A line starts in V-blank or in the OAM scan. -/
theorem modeAt_0 (ly : Nat) : modeAt ly 0 = if ly < 144 then .oamScan else .vblank := by
  unfold modeAt
  grind

/-- The mode a tick leaves is that of the table at the next dot. -/
theorem onTrack_ppuTick {s : State} (h : s.ppu.OnTrack) :
    (ppuTick s).ppu.OnTrack ∧ (ppuTick s).ppu.position = (s.ppu.position + 1) % 70224 := by
  obtain ⟨hon, hly, hdot, hmode⟩ := h
  have hon' : (ppuTick s).ppu.lcdc.getLsbD 7 = true := by rw [ppuTick_lcdc, hon]
  unfold Ppu.position
  by_cases hend : s.ppu.dot = 455
  · have ht := tickLeaves_end_of_line hon hend
    have hnext := lineAfter_toNat hly
    refine ⟨⟨hon', ?_, ?_, ?_⟩, ?_⟩
    · rw [ht.ly, hnext]
      split <;> omega
    · rw [ht.dot]
      decide
    · rw [ht.mode, ht.ly, ht.dot, hmode, hend, hnext, modeAt_455, modeAt_0]
      simp only [lineAfter_eq_144_iff hly, lineAfter_lt_144_iff hly]
      grind
    · rw [ht.ly, ht.dot, hnext, hend]
      by_cases hlast : s.ppu.ly.toNat = 153
      · rw [if_pos hlast, hlast]
      · rw [if_neg hlast]
        omega
  · have ht := tickLeaves_within_line hon hend
    refine ⟨⟨hon', ?_, ?_, ?_⟩, ?_⟩
    · rwa [ht.ly]
    · rw [ht.dot]
      omega
    · rw [ht.mode, ht.ly, ht.dot, hmode, modeAt_succ]
    · rw [ht.ly, ht.dot]
      omega

theorem onTrack_repeatN {s : State} (h : s.ppu.OnTrack) (n : Nat) :
    (repeatN n ppuTick s).ppu.OnTrack ∧ (repeatN n ppuTick s).ppu.position = (s.ppu.position + n) % 70224 := by
  induction n with
  | zero =>
    have hlt : s.ppu.position < 70224 := by
      have := h.ly_le
      have := h.dot_lt
      unfold Ppu.position
      omega
    rw [Nat.add_zero, Nat.mod_eq_of_lt hlt]
    exact ⟨h, rfl⟩
  | succ n ih =>
    obtain ⟨htrack, hposition⟩ := ih
    obtain ⟨htrack', hposition'⟩ := onTrack_ppuTick htrack
    rw [repeatN_succ]
    refine ⟨htrack', ?_⟩
    rw [hposition', hposition, Nat.mod_add_mod, Nat.add_assoc]

/-- Line 144 is entered from the last dot of line 143 (R534). -/
theorem ppuTick_vblank {s : State} (h : s.ppu.OnTrack) :
    (ppuTick s).irq.flag.getLsbD 0 =
      (s.irq.flag.getLsbD 0 || decide (s.ppu.position = 143 * 456 + 455)) := by
  obtain ⟨hon, hly, hdot, -⟩ := h
  have hvblank : IrqSource.vblank.mask.getLsbD 0 = true := by decide
  have hstat : IrqSource.lcdStat.mask.getLsbD 0 = false := by decide
  by_cases hend : s.ppu.dot = 455
  · have hposition : s.ppu.position = 143 * 456 + 455 ↔ lineAfter s.ppu.ly = 144 := by
      rw [lineAfter_eq_144_iff hly, Ppu.position, hend]
      omega
    rw [(tickLeaves_end_of_line hon hend).flag, hvblank, hstat]
    simp only [hposition, Bool.and_true, Bool.and_false, Bool.or_false]
  · have hposition : s.ppu.position ≠ 143 * 456 + 455 := by
      unfold Ppu.position
      omega
    rw [(tickLeaves_within_line hon hend).flag, hstat, decide_eq_false hposition]
    simp only [Bool.false_and, Bool.and_false, Bool.or_false]

/-- Settles O51: the ticks by `onTrack_repeatN`, the interrupt by `ppuTick_vblank`. -/
theorem ppuFrameTiming : Obligations.PpuFrameTiming := fun _ h => ⟨onTrack_repeatN h, ppuTick_vblank h⟩

/-! ### The STAT interrupt (R535, R538) -/

/-- Within a line the mode changes to an enabled one at the start of H-blank only: drawing has no enable. -/
theorem modeRequest_within_line {s : State} (h : s.ppu.OnTrack) (hend : s.ppu.dot ≠ 455) :
    (decide ((ppuTick s).ppu.mode ≠ s.ppu.mode) && s.ppu.modeEnabled (ppuTick s).ppu.mode) =
      (decide (s.ppu.ly.toNat < 144 ∧ s.ppu.dot = 251) && s.ppu.statEnables.getLsbD 0) := by
  rw [(tickLeaves_within_line h.lcdOn hend).mode]
  by_cases hdraw : s.ppu.ly.toNat < 144 ∧ s.ppu.dot = 79
  · have hnot : ¬(s.ppu.ly.toNat < 144 ∧ s.ppu.dot = 251) := by omega
    rw [if_pos hdraw, decide_eq_false hnot]
    simp only [Ppu.modeEnabled, Bool.and_false, Bool.false_and]
  · rw [if_neg hdraw]
    by_cases hblank : s.ppu.ly.toNat < 144 ∧ s.ppu.dot = 251
    · have hdrawing : s.ppu.mode = .drawing := by
        rw [h.mode_eq, modeAt, if_neg (by omega), if_neg (by omega), if_pos (by omega)]
      have hchanged : PpuMode.hblank ≠ .drawing := nofun
      rw [if_pos hblank, decide_eq_true hblank, hdrawing, decide_eq_true hchanged]
      rfl
    · rw [if_neg hblank, decide_eq_false hblank, decide_eq_false (not_not_intro rfl)]
      rfl

/-- At the end of a line it changes with the line's kind: to V-blank, or to the OAM scan of a visible line. -/
theorem modeRequest_end_of_line {s : State} (h : s.ppu.OnTrack) (hend : s.ppu.dot = 455) :
    (decide ((ppuTick s).ppu.mode ≠ s.ppu.mode) && s.ppu.modeEnabled (ppuTick s).ppu.mode) =
      (decide (lineAfter s.ppu.ly = 144) && s.ppu.statEnables.getLsbD 1 ||
        decide (lineAfter s.ppu.ly < 144) && s.ppu.statEnables.getLsbD 2) := by
  have h144 := lineAfter_eq_144_iff h.ly_le
  have hlt := lineAfter_lt_144_iff h.ly_le
  have hmode : s.ppu.mode = if s.ppu.ly.toNat < 144 then .hblank else .vblank := by
    rw [h.mode_eq, hend, modeAt_455]
  rw [(tickLeaves_end_of_line h.lcdOn hend).mode]
  by_cases hvblank : lineAfter s.ppu.ly = 144
  · have hly := h144.mp hvblank
    have hnot : ¬lineAfter s.ppu.ly < 144 := hlt.not.mpr (by omega)
    have hchanged : PpuMode.vblank ≠ s.ppu.mode := by
      rw [hmode, if_pos (by omega)]
      nofun
    rw [if_pos hvblank, decide_eq_true hvblank, decide_eq_false hnot, decide_eq_true hchanged]
    simp only [Ppu.modeEnabled, Bool.true_and, Bool.false_and, Bool.or_false]
  · rw [if_neg hvblank, decide_eq_false hvblank]
    by_cases hscan : lineAfter s.ppu.ly < 144
    · have hchanged : PpuMode.oamScan ≠ s.ppu.mode := by
        rw [hmode]
        split <;> nofun
      rw [if_pos hscan, decide_eq_true hscan, decide_eq_true hchanged]
      simp only [Ppu.modeEnabled, Bool.true_and, Bool.false_and, Bool.false_or]
    · rw [if_neg hscan, decide_eq_false hscan, decide_eq_false (not_not_intro rfl)]
      rfl

/-- Settles O52: the tick's requests by `modeRequest_within_line` and `modeRequest_end_of_line`, the writes by their
registers. -/
theorem statInterrupts : Obligations.StatInterrupts := by
  unfold Obligations.StatInterrupts
  rintro s t newLine h rfl rfl enabled
  have henabled : enabled = s.ppu.modeEnabled (ppuTick s).ppu.mode := rfl
  have hvblank : IrqSource.vblank.mask.getLsbD 1 = false := by decide
  have hstat : IrqSource.lcdStat.mask.getLsbD 1 = true := by decide
  rw [henabled]
  refine ⟨?request, ?coincidence, fun hidle v => ⟨?stat, ?lyc⟩⟩
  case request =>
    by_cases hend : s.ppu.dot = 455
    · have ht := tickLeaves_end_of_line h.lcdOn hend
      rw [modeRequest_end_of_line h hend, ht.flag, ht.ly, hvblank, hstat, decide_eq_true hend]
      simp only [Bool.and_false, Bool.or_false, Bool.and_true, Bool.true_and]
      ac_rfl
    · rw [modeRequest_within_line h hend, (tickLeaves_within_line h.lcdOn hend).flag, hvblank, hstat,
        decide_eq_false hend]
      simp only [Bool.and_false, Bool.or_false, Bool.and_true, Bool.false_and]
  case coincidence =>
    by_cases hend : s.ppu.dot = 455
    · have ht := tickLeaves_end_of_line h.lcdOn hend
      rw [ht.coincidence, ht.ly, if_pos (decide_eq_true hend)]
    · rw [(tickLeaves_within_line h.lcdOn hend).coincidence, if_neg (by simpa using hend)]
  case stat => exact memWrite_ioReg hidle rfl (by decide) v
  case lyc => exact memWrite_ioReg hidle rfl (by decide) v

/-! ### What a tick leaves alone (R530, R536, R560) -/

/-- A tick requests no interrupt but V-blank and STAT, whatever the PPU's state. -/
theorem ppuTick_getLsbD_of_two_le (s : State) {k : Nat} (hk : 2 ≤ k) :
    (ppuTick s).irq.flag.getLsbD k = s.irq.flag.getLsbD k := by
  have hhigh : ∀ v : BitVec 5, v.toNat < 4 → v.getLsbD k = false := fun v hv =>
    Nat.testBit_lt_two_pow (Nat.lt_of_lt_of_le hv (Nat.pow_le_pow_right Nat.two_pos hk))
  have hvblank : IrqSource.vblank.mask.getLsbD k = false := hhigh _ (by decide)
  have hstat : IrqSource.lcdStat.mask.getLsbD k = false := hhigh _ (by decide)
  cases hon : s.ppu.lcdc.getLsbD 7 with
  | false => rw [ppuTick_of_off hon]
  | true =>
    by_cases hend : s.ppu.dot = 455
    · rw [(tickLeaves_end_of_line hon hend).flag, hvblank, hstat]
      simp only [Bool.and_false, Bool.or_false]
    · rw [(tickLeaves_within_line hon hend).flag, hvblank, hstat]
      simp only [Bool.and_false, Bool.or_false]

/-- It leaves every framebuffer line but the one the PPU is on. -/
theorem ppuTick_row_of_ne (s : State) {y : Nat} (hy : y ≠ s.ppu.ly.toNat) :
    (ppuTick s).ppu.fb.row y = s.ppu.fb.row y := by
  cases hon : s.ppu.lcdc.getLsbD 7 with
  | false => rw [ppuTick_of_off hon]
  | true =>
    by_cases hdraw : s.ppu.ly.toNat < 144 ∧ s.ppu.dot = 79
    · rw [ppuTick_ppu_of_dot_79 hon hdraw.1 hdraw.2, composeLine_ppu]
      exact (Framebuffer.row_setRow ..).trans (if_neg hy)
    · rw [(ppuTick_fb_of_dot_ne_79 hon hdraw).1]

/-- Settles O53: the frame of a tick, and the composition at dot 79 of a visible line alone. -/
theorem ppuTouchesOnlyItself : Obligations.PpuTouchesOnlyItself := by
  unfold Obligations.PpuTouchesOnlyItself
  rintro s t rfl
  have hframe := tickFrame_ppuTick s
  refine ⟨hframe.rest, hframe.enable, fun k hk => ppuTick_getLsbD_of_two_le s hk, hframe.ppu,
    fun y hy => ppuTick_row_of_ne s hy, fun hon => ⟨fun hdraw => ?_, ppuTick_fb_of_dot_ne_79 hon⟩⟩
  rw [ppuTick_ppu_of_dot_79 hon hdraw.1 hdraw.2]
  exact ⟨rfl, rfl⟩

/-! ### The LCD's switch (R545) -/

/-- Settles O54: a write to `LCDC` by the change of bit 7, the rest by the LCD being off. -/
theorem lcdOnAndOff : Obligations.LcdOnAndOff := by
  unfold Obligations.LcdOnAndOff
  intro s v hidle
  have hwrite : memWrite 0xFF40 v s = { s with ppu := s.ppu.writeLcdc v } := memWrite_ioReg hidle rfl (by decide) v
  rw [hwrite, Ppu.writeLcdc]
  refine ⟨fun hon hoff => ?_, fun hoff hon => ?_, fun hsame => ?_, fun hoff => ⟨ppuTick_of_off hoff, ?_⟩⟩
  · rw [hon, hoff]
  · rw [hoff, hon]
  · rw [hsame]
    cases v.getLsbD 7 <;> rfl
  · rw [oamBlocked, hoff, Bool.and_false, Bool.false_and]

end Sys2Proof.Proofs
end

section
/-! PROOFS. The picture (63_ppu R550-R559): the pixels of tiles and layers as numbers, the sprites of a line, the sprite
of a column, and the composed line. -/

namespace Sys2Proof.Proofs
open Sys2Proof.Machine

/-! ### Tiles and palettes as numbers (R556, R559) -/

theorem byte_getLsbD_toNat (v : Byte) (n : Nat) : (v.getLsbD n).toNat = v.toNat / 2 ^ n % 2 := by
  rw [BitVec.getLsbD, Nat.testBit_eq_decide_div_mod_eq]
  rcases Nat.mod_two_eq_zero_or_one (v.toNat / 2 ^ n) with h | h <;> rw [h] <;> rfl

theorem bitOf_append_toNat (hi lo : Bool) : (bitOf hi ++ bitOf lo).toNat = 2 * hi.toNat + lo.toNat := by
  revert hi lo
  decide

/-- A tile's pixel is one bit of each byte of its row. -/
theorem tilePixel_toNat (s : State) (addr r c : Nat) :
    (tilePixel s addr r c).toNat =
      2 * ((s.mem.get (addr + 2 * r + 1)).toNat / 2 ^ (7 - c) % 2) +
        (s.mem.get (addr + 2 * r)).toNat / 2 ^ (7 - c) % 2 := by
  rw [tilePixel, bitOf_append_toNat, byte_getLsbD_toNat, byte_getLsbD_toNat]

theorem palette_toNat (p : Byte) (i : Shade) : (palette p i).toNat = p.toNat / 4 ^ i.toNat % 4 := by
  rw [palette, BitVec.extractLsb'_toNat, Nat.shiftRight_eq_div_pow, Nat.pow_mul]

/-- The two tile-addressing methods, the entry as a number (R555). -/
theorem tileAddr_eq (lcdc e : Byte) :
    tileAddr lcdc e =
      if lcdc.getLsbD 4 then 0x8000 + 16 * e.toNat
      else if e.toNat < 128 then 0x9000 + 16 * e.toNat else 0x8000 + 16 * e.toNat := by
  have h7 : e.getLsbD 7 = true ↔ ¬e.toNat < 128 := by
    revert e
    decide
  have hwrap : 0x9000 + 16 * e.toNat - 16 * 256 = 0x8000 + 16 * e.toNat := by omega
  simp only [tileAddr, h7, hwrap, ite_not]

/-! ### The sprites of a line (R552) -/

theorem spriteOnLine_iff (s : State) (y i : Nat) :
    spriteOnLine s y i = true ↔
      ((s.mem.get (0xFE00 + 4 * i)).toNat : Int) - 16 ≤ y ∧
        (y : Int) < ((s.mem.get (0xFE00 + 4 * i)).toNat : Int) - 16 + (if s.ppu.lcdc.getLsbD 2 then 16 else 8) := by
  have hheight : ((if s.ppu.lcdc.getLsbD 2 then 16 else 8 : Int)) = (spriteHeight s : Int) := by
    unfold spriteHeight
    split <;> rfl
  rw [hheight, spriteOnLine, Bool.and_eq_true, decide_eq_true_eq, decide_eq_true_eq, oamByte, Nat.add_zero]
  omega

/-- The elements of a rising list that are not among its first `n` come after `n` others. -/
theorem length_take_of_not_mem {l : List Nat} (hl : l.Pairwise (· < ·)) {i n : Nat} (hi : i ∈ l) (hn : i ∉ l.take n) :
    (l.take n).length = n ∧ ∀ j ∈ l.take n, j < i := by
  rw [← List.take_append_drop n l] at hl
  have hdrop : i ∈ l.drop n := by
    rw [← List.take_append_drop n l, List.mem_append] at hi
    exact hi.resolve_left hn
  have hlength : n < l.length := by
    have := List.length_pos_of_mem hdrop
    rw [List.length_drop] at this
    omega
  exact ⟨List.length_take_of_le (by omega), fun j hj => (List.pairwise_append.mp hl).2.2 j hj i hdrop⟩

/-- Settles O56: the first ten of the sprites on the line, which are in OAM order. -/
theorem spriteSelection : Obligations.SpriteSelection := by
  unfold Obligations.SpriteSelection
  intro s y hon onLine objs
  have hsorted : ((List.range 40).filter (spriteOnLine s y)).Pairwise (· < ·) := List.pairwise_lt_range.filter _
  have hobjs : objs = ((List.range 40).filter (spriteOnLine s y)).take 10 := if_pos hon
  have hmem (i : Nat) : i ∈ (List.range 40).filter (spriteOnLine s y) ↔ i < 40 ∧ onLine i := by
    rw [List.mem_filter, List.mem_range, spriteOnLine_iff]
  rw [hobjs]
  exact ⟨List.length_take_le _ _, hsorted.sublist (List.take_sublist _ _),
    fun i hi => (hmem i).mp (List.mem_of_mem_take hi),
    fun i hi hline hout => length_take_of_not_mem hsorted ((hmem i).mpr ⟨hi, hline⟩) hout⟩

/-! ### The sprite of a column (R557, R558) -/

theorem spriteCovers_iff (s : State) (x i : Nat) :
    spriteCovers s x i = true ↔ (oamByte s i 1).toNat ≤ x + 8 ∧ x < (oamByte s i 1).toNat := by
  rw [spriteCovers, Bool.and_eq_true, decide_eq_true_eq, decide_eq_true_eq, Nat.add_lt_add_iff_right]

/-- The pixel of a sprite on the line, its row in the first or the second tile of a tall one (R557). -/
theorem spritePixel_toNat {s : State} {x y i row col tile : Nat}
    (hrow : row = if (oamByte s i 3).getLsbD 6 then spriteHeight s - 1 - (y + 16 - (oamByte s i 0).toNat)
      else y + 16 - (oamByte s i 0).toNat)
    (hcol : col = if (oamByte s i 3).getLsbD 5 then 7 - (x + 8 - (oamByte s i 1).toNat)
      else x + 8 - (oamByte s i 1).toNat)
    (htile : tile = if s.ppu.lcdc.getLsbD 2 then (oamByte s i 2).toNat / 2 * 2 else (oamByte s i 2).toNat) :
    (spritePixel s x y i).toNat =
      2 * ((s.mem.get (0x8000 + 16 * tile + 2 * row + 1)).toNat / 2 ^ (7 - col) % 2) +
        (s.mem.get (0x8000 + 16 * tile + 2 * row)).toNat / 2 ^ (7 - col) % 2 := by
  have htall : (if spriteHeight s = 16 then (oamByte s i 2).toNat - (oamByte s i 2).toNat % 2
      else (oamByte s i 2).toNat) = tile := by
    rw [htile, spriteHeight]
    cases s.ppu.lcdc.getLsbD 2 with
    | false => rfl
    | true => exact Nat.sub_eq_of_eq_add (Nat.div_add_mod' _ 2).symm
  have hpixel : spritePixel s x y i = tilePixel s (0x8000 + 16 * tile + 16 * (row / 8)) (row % 8) col := by
    rw [spritePixel, htall, ← hrow, ← hcol]
  have haddr : 0x8000 + 16 * tile + 16 * (row / 8) + 2 * (row % 8) = 0x8000 + 16 * tile + 2 * row := by omega
  rw [hpixel, tilePixel_toNat, haddr]

theorem mem_of_leftmostSprite {s : State} {l : List Nat} {i : Nat} (h : leftmostSprite s l = some i) : i ∈ l := by
  induction l with
  | nil => cases h
  | cons k l ih =>
    rw [leftmostSprite] at h
    split at h
    · cases h
      exact List.mem_cons_self
    · rename_i j hj
      split at h <;> cases h
      · exact List.mem_cons_of_mem k (ih hj)
      · exact List.mem_cons_self

/-- In a list in index order, the sprite with the least (OAM X, index) is the leftmost. -/
theorem leftmostSprite_of_least {s : State} {l : List Nat} (hl : l.Pairwise (· < ·)) {i : Nat} (hi : i ∈ l)
    (hleast : ∀ j ∈ l, (oamByte s i 1).toNat < (oamByte s j 1).toNat ∨
      ((oamByte s i 1).toNat = (oamByte s j 1).toNat ∧ i ≤ j)) :
    leftmostSprite s l = some i := by
  induction l with
  | nil => cases hi
  | cons k l ih =>
    obtain ⟨hk, hl⟩ := List.pairwise_cons.mp hl
    rw [leftmostSprite]
    rcases List.mem_cons.mp hi with rfl | hi
    · cases hrest : leftmostSprite s l with
      | none => rfl
      | some j =>
        have := hleast j (List.mem_cons_of_mem i (mem_of_leftmostSprite hrest))
        exact if_neg (by omega)
    · have hki := hk i hi
      have hx := hleast k List.mem_cons_self
      rw [ih hl hi fun j hj => hleast j (List.mem_cons_of_mem k hj)]
      exact if_pos (by omega)

/-- The sprites looked at for a column (R558). -/
def lookedAt (s : State) (objs : List Nat) (x y : Nat) : List Nat :=
  if s.cfg.objFallthrough then (objs.filter (spriteCovers s x)).filter (fun i => spritePixel s x y i != 0)
  else objs.filter (spriteCovers s x)

theorem spriteCandidate_eq (s : State) (objs : List Nat) (x y : Nat) :
    spriteCandidate s objs x y = leftmostSprite s (lookedAt s objs x y) := rfl

theorem mem_lookedAt {s : State} {objs : List Nat} {x y i : Nat} :
    i ∈ lookedAt s objs x y ↔
      i ∈ objs ∧ ((oamByte s i 1).toNat ≤ x + 8 ∧ x < (oamByte s i 1).toNat) ∧
        (s.cfg.objFallthrough = true → spritePixel s x y i ≠ 0) := by
  unfold lookedAt
  split
  · rename_i h
    simp only [List.mem_filter, spriteCovers_iff, bne_iff_ne, h, forall_const, and_assoc]
  · rename_i h
    simp only [List.mem_filter, spriteCovers_iff, h, Bool.false_eq_true, false_implies, and_true]

theorem pairwise_lookedAt {s : State} {objs : List Nat} (h : objs.Pairwise (· < ·)) (x y : Nat) :
    (lookedAt s objs x y).Pairwise (· < ·) := by
  unfold lookedAt
  split
  · exact (h.filter _).filter _
  · exact h.filter _

theorem spriteOver_of_lookedAt_nil {s : State} {objs : List Nat} {x y : Nat} (h : lookedAt s objs x y = [])
    (c shade : Shade) : spriteOver s objs x y c shade = shade := by
  rw [spriteOver, spriteCandidate_eq, h, leftmostSprite]

theorem spriteOver_nil (s : State) (x y : Nat) (c shade : Shade) : spriteOver s [] x y c shade = shade := by
  have hempty : lookedAt s [] x y = [] := by
    unfold lookedAt
    split <;> rfl
  exact spriteOver_of_lookedAt_nil hempty c shade

/-- What the sprite looked at draws: nothing if its pixel is 0 or it lies behind the background. -/
theorem spriteOver_of_some {s : State} {objs : List Nat} {x y i : Nat} (h : spriteCandidate s objs x y = some i)
    (c shade : Shade) :
    spriteOver s objs x y c shade =
      if spritePixel s x y i = 0 ∨ ((oamByte s i 3).getLsbD 7 = true ∧ c ≠ 0) then shade
      else palette (if (oamByte s i 3).getLsbD 4 then s.ppu.obp1 else s.ppu.obp0) (spritePixel s x y i) := by
  rw [spriteOver, h]
  dsimp only
  by_cases hzero : spritePixel s x y i = 0
  · rw [if_pos hzero, if_pos (.inl hzero)]
  · have hbehind : (!(oamByte s i 3).getLsbD 7 || c == 0) = true ↔
        ¬(spritePixel s x y i = 0 ∨ ((oamByte s i 3).getLsbD 7 = true ∧ c ≠ 0)) := by
      simp only [Bool.or_eq_true, Bool.not_eq_true', beq_iff_eq, hzero, false_or, not_and, ne_eq, not_not,
        ← Bool.not_eq_true, imp_iff_not_or]
    rw [if_neg hzero]
    simp only [hbehind, ite_not]

/-- Settles O57: the pixel is `spritePixel_toNat`, the sprite looked at the least of `lookedAt`. -/
theorem spritePriority : Obligations.SpritePriority := by
  unfold Obligations.SpritePriority
  intro s objs x y c shade hsorted oam attr height covers looked
  have hmem (i : Nat) : i ∈ lookedAt s objs x y ↔ i ∈ objs ∧ looked i := mem_lookedAt
  refine ⟨fun i _ _ _ => spritePixel_toNat rfl rfl rfl, fun hnone => ?_, fun i hi hlooked hleast => ?_⟩
  · exact spriteOver_of_lookedAt_nil
      (List.eq_nil_iff_forall_not_mem.mpr fun i hi => hnone i ((hmem i).mp hi).1 ((hmem i).mp hi).2) c shade
  · refine spriteOver_of_some ?_ c shade
    rw [spriteCandidate_eq]
    exact leftmostSprite_of_least (pairwise_lookedAt hsorted x y) ((hmem i).mpr ⟨hi, hlooked⟩)
      fun j hj => hleast j ((hmem j).mp hj).1 ((hmem j).mp hj).2

/-! ### The composed line (R550-R556) -/

/-- A map's pixel, by the entry at its place and the tile that entry names (R551, R555). -/
theorem mapPixel_toNat {s : State} {base mx my entry tile : Nat}
    (hentry : entry = (s.mem.get (base + 32 * (my / 8) + mx / 8)).toNat)
    (htile : tile = if s.ppu.lcdc.getLsbD 4 then 0x8000 + 16 * entry
      else if entry < 128 then 0x9000 + 16 * entry else 0x8000 + 16 * entry) :
    (mapPixel s base mx my).toNat =
      2 * ((s.mem.get (tile + 2 * (my % 8) + 1)).toNat / 2 ^ (7 - mx % 8) % 2) +
        (s.mem.get (tile + 2 * (my % 8))).toNat / 2 ^ (7 - mx % 8) % 2 := by
  rw [mapPixel, tilePixel_toNat, tileAddr_eq, ← hentry, ← htile]

/-- The layer whose pixel is seen: the window where it covers, else the background (R550, R551, R553). -/
theorem layerIndex_eq {s : State} {x y : Nat} {window : Bool} (hwindow : window = windowCovers s x y) :
    layerIndex s x y =
      if s.ppu.lcdc.getLsbD 0 then
        mapPixel s (mapBase (if window then s.ppu.lcdc.getLsbD 6 else s.ppu.lcdc.getLsbD 3))
          (if window then x + 7 - s.ppu.wx.toNat else (x + s.ppu.scx.toNat) % 256)
          (if window then windowY s y else (y + s.ppu.scy.toNat) % 256)
      else 0 := by
  rw [layerIndex, ← hwindow]
  cases window <;> rfl

theorem windowY_eq (s : State) (y : Nat) :
    windowY s y =
      if s.cfg.windowLineMode = .counter then s.ppu.windowLine.toNat else y - s.ppu.wy.toNat := by
  unfold windowY
  cases s.cfg.windowLineMode <;> rfl

theorem layerShade_toNat (s : State) (c : Shade) :
    (layerShade s c).toNat = if s.ppu.lcdc.getLsbD 0 then s.ppu.bgp.toNat / 4 ^ c.toNat % 4 else 0 := by
  unfold layerShade
  split
  · exact palette_toNat s.ppu.bgp c
  · rfl

theorem composeLine_row (y : Nat) (s : State) (z : Nat) :
    (composeLine y s).ppu.fb.row z =
      if z = y then (List.range lineWidth).map (composePixel s (selectSprites s y) y) else s.ppu.fb.row z :=
  Framebuffer.row_setRow ..

theorem composeLine_pixel (s : State) (y : Nat) {x : Nat} (hx : x < 160) :
    (composeLine y s).ppu.fb.pixel y x = composePixel s (selectSprites s y) y x := by
  rw [Framebuffer.pixel, composeLine_row, if_pos rfl, List.getD_eq_getElem _ _ (by simpa [lineWidth] using hx)]
  simp

/-- The window is drawn on a line if it covers its last pixel (R550, `win`). -/
theorem windowDrawn_iff (s : State) (y : Nat) :
    windowDrawn s y = true ↔
      s.ppu.lcdc.getLsbD 0 = true ∧ s.ppu.lcdc.getLsbD 5 = true ∧ s.ppu.wy.toNat ≤ y ∧ s.ppu.wx.toNat ≤ 166 := by
  simp only [windowDrawn, windowCovers, lineWidth, Bool.and_eq_true, List.any_eq_true, List.mem_range,
    decide_eq_true_eq]
  constructor
  · rintro ⟨h0, x, hx, ⟨h5, hwy⟩, hwx⟩
    exact ⟨h0, h5, hwy, by omega⟩
  · rintro ⟨h0, h5, hwy, hwx⟩
    exact ⟨h0, 159, by omega, ⟨h5, hwy⟩, hwx⟩

/-- Settles O55: the pixel's index and shade as numbers, the sprites over it, and the line's row and counter. -/
theorem composedLine : Obligations.ComposedLine := by
  unfold Obligations.ComposedLine
  intro s t x y mx my base entry tile lo hi c shade window hy hx ht hwindow hmx hmy hbase hentry htile hlo hhi hc hshade
  have hbase : base = mapBase (if window then s.ppu.lcdc.getLsbD 6 else s.ppu.lcdc.getLsbD 3) := hbase
  rw [← windowY_eq] at hmy
  have hindex : (layerIndex s x y).toNat = c := by
    rw [layerIndex_eq hwindow, ← hmx, ← hmy, ← hbase, hc, hlo, hhi, ← mapPixel_toNat hentry htile]
    cases s.ppu.lcdc.getLsbD 0 <;> rfl
  have hlayer : (layerShade s (layerIndex s x y)).toNat = shade := by rw [layerShade_toNat, hindex, hshade]
  have hpixel : t.ppu.fb.pixel y x =
      spriteOver s (selectSprites s y) x y (BitVec.ofNat 2 c) (BitVec.ofNat 2 shade) := by
    rw [ht, composeLine_pixel s y hx, composePixel, ← hindex, ← hlayer, BitVec.ofNat_toNat, BitVec.ofNat_toNat,
      BitVec.setWidth_eq, BitVec.setWidth_eq]
  refine ⟨hpixel, fun hoff => ?noSprites, ?length, fun z hz => ?otherRows, ?windowLine⟩
  case noSprites =>
    have hnone : selectSprites s y = [] := by
      rw [selectSprites, hoff]
      rfl
    have hshadeLt : shade < 4 := hlayer ▸ (layerShade s (layerIndex s x y)).isLt
    rw [hpixel, hnone, spriteOver_nil, BitVec.toNat_ofNat, Nat.mod_eq_of_lt hshadeLt]
  case length =>
    rw [ht, composeLine_row, if_pos rfl, List.length_map, List.length_range, lineWidth]
  case otherRows => rw [ht, composeLine_row, if_neg hz]
  case windowLine =>
    rw [ht, composeLine_ppu]
    simp only [Bool.and_eq_true, windowDrawn_iff, beq_iff_eq]
    exact if_congr (by tauto) rfl rfl

end Sys2Proof.Proofs
end

section
/-! PROOFS. The M-cycles of every instruction (70_reset_and_hazards R650): each family's count is its entry in the
grid. -/

namespace Sys2Proof.Proofs
open Sys2Proof.Machine

/-- The outcome is a next state with this count. -/
def CompletesIn (n : Nat) (r : Result) : Prop := ∃ t, r = .next t ∧ t.elapsed = n

theorem completesIn_done (n : Nat) (s : State) : CompletesIn n (done n s) := ⟨_, rfl, rfl⟩

/-- A conditional instruction has a count for either case. -/
theorem completesIn_ite {c : Prop} [Decidable c] {n m : Nat} {r r' : Result} (h : CompletesIn n r)
    (h' : CompletesIn m r') : CompletesIn (if c then n else m) (if c then r else r') := by
  by_cases hc : c
  · simpa only [if_pos hc] using h
  · simpa only [if_neg hc] using h'

theorem completesIn_halt (s : State) : CompletesIn 1 (halt 1 s) :=
  ite_elim (fun _ => completesIn_done _ _) fun _ =>
    ite_elim (fun _ => completesIn_done _ _) fun _ => completesIn_done 1 s

theorem completesIn_stop (s : State) : CompletesIn 1 (stop 1 s) := by
  cases hmode : s.cfg.stopMode with
  | waitButton => exact ⟨_, stop_of_waitButton hmode, rfl⟩
  | refuse => exact ⟨_, stop_of_refuse hmode, rfl⟩

theorem completesIn_undefinedOpcode (op : Byte) (s : State) : CompletesIn 1 (undefinedOpcode op 1 s) := by
  cases hmode : s.cfg.illegalOpcodeMode with
  | lock => exact ⟨_, undefinedOpcode_of_lock hmode, rfl⟩
  | nop => exact ⟨_, undefinedOpcode_of_nop hmode, rfl⟩

/-- The instruction completes from every state in the M-cycles of the grid. -/
def RunsInGridCycles (i : Instr) : Prop := ∀ s, CompletesIn (cyclesOf (encode i) s.cpu.f) (exec i s)

/-- The operation's count is the grid's entry for the instruction's bytes. -/
theorem runsInGridCycles_of {i : Instr} {op : State → Result} {n : Flags → Nat} (hexec : ∀ s, exec i s = op s)
    (hop : ∀ s, CompletesIn (n s.cpu.f) (op s)) (hgrid : ∀ f, cyclesOf (encode i) f = n f) : RunsInGridCycles i :=
  fun s => hexec s ▸ hgrid s.cpu.f ▸ hop s

/-! ### The grid's entries by family -/

theorem cyclesOf_ldReg (r : Reg8) (o : Operand8) (f : Flags) :
    cyclesOf (encode (instrLd (.reg r) o)) f = o.cycles 1 2 := by
  rw [encode_instrLd_reg]
  cases o with
  | reg q => cases r <;> cases q <;> rfl
  | atHl => cases r <;> rfl

theorem cyclesOf_ldImm (o : Operand8) (n : Byte) (f : Flags) :
    cyclesOf (encode (instrLdImm o n)) f = o.cycles 2 3 := by
  rw [encode_instrLdImm]
  cases o with
  | reg q => cases q <;> rfl
  | atHl => rfl

theorem cyclesOf_alu (op : AluOp) (src : Source8) (f : Flags) :
    cyclesOf (encode (aluInstr op src)) f = src.cycles := by
  rw [encode_aluInstr]
  cases src with
  | imm n => cases op <;> rfl
  | op o =>
    cases o with
    | reg q => cases op <;> cases q <;> rfl
    | atHl => cases op <;> rfl

theorem cyclesOf_inc (o : Operand8) (f : Flags) : cyclesOf (encode (instrInc o)) f = o.cycles 1 3 := by
  rw [encode_instrInc]
  cases o with
  | reg q => cases q <;> rfl
  | atHl => rfl

theorem cyclesOf_dec (o : Operand8) (f : Flags) : cyclesOf (encode (instrDec o)) f = o.cycles 1 3 := by
  rw [encode_instrDec]
  cases o with
  | reg q => cases q <;> rfl
  | atHl => rfl

theorem cyclesOf_rot (op : RotOp) (o : Operand8) (f : Flags) :
    cyclesOf (encode (instrRot op o)) f = o.cycles 2 4 := by
  rw [encode_instrRot]
  cases o with
  | reg q => cases op <;> cases q <;> rfl
  | atHl => cases op <;> rfl

theorem cyclesOf_bit (b : BitIndex) (o : Operand8) (f : Flags) :
    cyclesOf (encode (instrBit b o)) f = o.cycles 2 3 := by
  rw [encode_instrBit]
  cases o with
  | reg q => cases b <;> cases q <;> rfl
  | atHl => cases b <;> rfl

theorem cyclesOf_res (b : BitIndex) (o : Operand8) (f : Flags) :
    cyclesOf (encode (instrRes b o)) f = o.cycles 2 4 := by
  rw [encode_instrRes]
  cases o with
  | reg q => cases b <;> cases q <;> rfl
  | atHl => cases b <;> rfl

theorem cyclesOf_set (b : BitIndex) (o : Operand8) (f : Flags) :
    cyclesOf (encode (instrSet b o)) f = o.cycles 2 4 := by
  rw [encode_instrSet]
  cases o with
  | reg q => cases b <;> cases q <;> rfl
  | atHl => cases b <;> rfl

/-! ### The statement -/

theorem runsInGridCycles_rot (op : RotOp) (o : Operand8) : RunsInGridCycles (instrRot op o) :=
  runsInGridCycles_of (exec_instrRot op o) (fun _ => completesIn_done _ _) (cyclesOf_rot op o)

theorem runsInGridCycles_bit (b : BitIndex) (o : Operand8) : RunsInGridCycles (instrBit b o) :=
  runsInGridCycles_of (exec_instrBit b o) (fun _ => completesIn_done _ _) (cyclesOf_bit b o)

theorem runsInGridCycles_res (b : BitIndex) (o : Operand8) : RunsInGridCycles (instrRes b o) :=
  runsInGridCycles_of (exec_instrRes b o) (fun _ => completesIn_done _ _) (cyclesOf_res b o)

theorem runsInGridCycles_set (b : BitIndex) (o : Operand8) : RunsInGridCycles (instrSet b o) :=
  runsInGridCycles_of (exec_instrSet b o) (fun _ => completesIn_done _ _) (cyclesOf_set b o)

/-- The row `cb_prefix` has the count of the CB row it selects (45_system R391). -/
theorem runsInGridCycles_cbPrefix (c : Byte) : RunsInGridCycles (.cb_prefix c) := fun s => by
  rw [exec_cb_prefix_eq, ← encode_decodeCb]
  exact decodeCb_cases (P := RunsInGridCycles) runsInGridCycles_rot runsInGridCycles_bit runsInGridCycles_res
    runsInGridCycles_set c s

/-- Settles O17: by family, the count its operation records and the grid's entry for its bytes, a conditional one's for
either case. -/
theorem instructionsCompleteInTheirCycles : Obligations.InstructionsCompleteInTheirCycles := by
  unfold Obligations.InstructionsCompleteInTheirCycles
  intro i
  show RunsInGridCycles i
  have hdone {n : Nat} (s : State) : CompletesIn n (done n s) := completesIn_done n s
  cases i using Instr.family_cases with
  | ldReg r o => exact runsInGridCycles_of (exec_instrLd_reg r o) (fun _ => hdone _) (cyclesOf_ldReg r o)
  | ldAtHl r => exact runsInGridCycles_of (exec_instrLd_atHl r) (fun _ => hdone _) fun f => by cases r <;> rfl
  | ldImm o n => exact runsInGridCycles_of (exec_instrLdImm o n) (fun _ => hdone _) (cyclesOf_ldImm o n)
  | loadA m =>
    exact runsInGridCycles_of (n := fun _ => m.cycles) (exec_loadAInstr m) (fun _ => hdone _) fun f => by
      cases m <;> rfl
  | storeA m =>
    exact runsInGridCycles_of (n := fun _ => m.cycles) (exec_storeAInstr m) (fun _ => hdone _) fun f => by
      cases m <;> rfl
  | ldPair p nn => exact runsInGridCycles_of (exec_instrLdPair p nn) (fun _ => hdone _) fun f => by cases p <;> rfl
  | push p => exact runsInGridCycles_of (exec_instrPush p) (fun _ => hdone _) fun f => by cases p <;> rfl
  | pop p => exact runsInGridCycles_of (exec_instrPop p) (fun _ => hdone _) fun f => by cases p <;> rfl
  | alu op src => exact runsInGridCycles_of (exec_aluInstr op src) (fun _ => hdone _) (cyclesOf_alu op src)
  | inc o => exact runsInGridCycles_of (exec_instrInc o) (fun _ => hdone _) (cyclesOf_inc o)
  | dec o => exact runsInGridCycles_of (exec_instrDec o) (fun _ => hdone _) (cyclesOf_dec o)
  | incPair p => exact runsInGridCycles_of (exec_instrIncPair p) (fun _ => hdone _) fun f => by cases p <;> rfl
  | decPair p => exact runsInGridCycles_of (exec_instrDecPair p) (fun _ => hdone _) fun f => by cases p <;> rfl
  | addHl p => exact runsInGridCycles_of (exec_instrAddHl p) (fun _ => hdone _) fun f => by cases p <;> rfl
  | rot op o => exact runsInGridCycles_rot op o
  | bit b o => exact runsInGridCycles_bit b o
  | res b o => exact runsInGridCycles_res b o
  | set b o => exact runsInGridCycles_set b o
  | jpCond cc nn =>
    exact runsInGridCycles_of (n := fun f => if f.holds cc then 4 else 3) (exec_instrJpCond cc nn)
      (fun _ => completesIn_ite (hdone _) (hdone _)) fun f => by cases cc <;> rfl
  | jrCond cc e =>
    exact runsInGridCycles_of (n := fun f => if f.holds cc then 3 else 2) (exec_instrJrCond cc e)
      (fun _ => completesIn_ite (hdone _) (hdone _)) fun f => by cases cc <;> rfl
  | callCond cc nn =>
    exact runsInGridCycles_of (n := fun f => if f.holds cc then 6 else 3) (exec_instrCallCond cc nn)
      (fun _ => completesIn_ite (hdone _) (hdone _)) fun f => by cases cc <;> rfl
  | retCond cc =>
    exact runsInGridCycles_of (n := fun f => if f.holds cc then 5 else 2) (exec_instrRetCond cc)
      (fun _ => completesIn_ite (hdone _) (hdone _)) fun f => by cases cc <;> rfl
  | rst v => exact runsInGridCycles_of (exec_instrRst v) (fun _ => hdone _) fun f => by cases v <;> rfl
  | halt => exact fun s => completesIn_halt s
  | stop n => exact fun s => completesIn_stop s
  | undefined p hp =>
    refine runsInGridCycles_of (n := fun _ => 1) (exec_undefined hp) (completesIn_undefinedOpcode p.1) fun f => ?_
    rw [encode_undefined hp]
    simp only [undefinedRows, List.mem_cons, List.not_mem_nil, or_false] at hp
    rcases hp with rfl | rfl | rfl | rfl | rfl | rfl | rfl | rfl | rfl | rfl | rfl <;> rfl
  | cbPrefix c => exact runsInGridCycles_cbPrefix c
  | storeSp | ldSpHl | daa | cpl | scf | ccf | addSp | ldHlSp | rlca | rrca | rla | rra | jp | jpHl | jr | call | ret |
    reti | nop | di | ei => exact fun s => hdone _

end Sys2Proof.Proofs
end

section
/-! PROOFS. Reset (70_reset_and_hazards R630): both profiles, and that the reset state meets the invariant. -/

namespace Sys2Proof.Proofs
open Sys2Proof.Machine

/-! ### The profiles -/

theorem resetFrom_of_postBoot {p : Params} (h : p.resetProfile = .postBoot) (u : Draws) :
    State.resetFrom p u = State.postBoot p u := by
  rw [State.resetFrom, h]

theorem resetFrom_of_bootRom {p : Params} (h : p.resetProfile = .bootRom) (u : Draws) :
    State.resetFrom p u = State.powerOn p u := by
  rw [State.resetFrom, h]

/-- No transfer runs after reset, so an I/O address reads its register. -/
theorem memRead_postBoot (p : Params) (u : Draws) {a : Word} (hio : regionOf a = .io) :
    memRead (State.postBoot p u) a = ioReadReg (State.postBoot p u) a (ioRegOf a) := memRead_ioReg rfl hio

theorem memRead_powerOn (p : Params) (u : Draws) {a : Word} (hio : regionOf a = .io) :
    memRead (State.powerOn p u) a = ioReadReg (State.powerOn p u) a (ioRegOf a) := memRead_ioReg rfl hio

/-- The boot ROM lies over the first page until the latch is set (20_memory R84). -/
theorem memRead_powerOn_bootPage (p : Params) (u : Draws) {a : Word} (ha : a.toNat ≤ 0x00FF) :
    memRead (State.powerOn p u) a = Memory.get p.bootRom a.toNat := by
  rw [memRead_of_idle rfl, busReadUngated, regionOf_of_bootPage ha]
  rfl

/-- Settles O13: each profile's columns, its I/O reads by their registers. -/
theorem resetProfiles : Obligations.ResetProfiles := by
  unfold Obligations.ResetProfiles
  refine fun p u => ⟨fun hprofile => ?_, fun hprofile => ?_⟩
  · rw [resetFrom_of_postBoot hprofile]
    have hread := fun {a : Word} => memRead_postBoot p u (a := a)
    have haf : word 0x01 (Flags.toByte ⟨true, false, true, true⟩) = 0x01B0 := by decide
    have hbc : word 0x00 0x13 = 0x0013 := by decide
    have hde : word 0x00 0xD8 = 0x00D8 := by decide
    have hhl : word 0x01 0x4D = 0x014D := by decide
    have hp1 : Joypad.read ⟨0, Buttons.released⟩ = 0xCF := by decide
    have hsc : Serial.readSc ⟨0x00, false, false, []⟩ = 0x7E := by decide
    have htac : (0b11111 : BitVec 5) ++ (0 : BitVec 3) = 0xF8 := by decide
    have hstat : (1 : BitVec 1) ++ (0 : BitVec 4) ++ bitOf true ++ PpuMode.oamScan.code = 0x86 := by decide
    exact ⟨rfl, haf, hbc, hde, hhl, rfl, rfl, rfl, rfl, rfl, rfl, rfl, rfl, rfl, rfl, rfl, rfl, rfl, rfl, rfl, rfl, rfl,
      rfl, (hread rfl).trans hp1, hread rfl, (hread rfl).trans hsc, hread rfl, hread rfl, hread rfl,
      (hread rfl).trans htac, rfl, rfl, hread rfl, (hread rfl).trans hstat, hread rfl, hread rfl, hread rfl, hread rfl,
      hread rfl, hread rfl, hread rfl, hread rfl⟩
  · rw [resetFrom_of_bootRom hprofile]
    have hread := fun {a : Word} => memRead_powerOn p u (a := a)
    exact ⟨rfl, rfl, rfl, rfl, rfl, rfl, rfl, rfl, hread rfl, rfl, hread rfl, rfl, rfl, rfl, rfl, rfl, rfl, rfl,
      fun a => memRead_powerOn_bootPage p u⟩

/-! ### The invariant -/

/-- The LCD is on at line 0, dot 0 after the boot ROM, off at power-on. -/
theorem ppuOk_reset (p : Params) : PpuOk (State.resetWith p).ppu := by
  unfold State.resetWith
  cases hprofile : p.resetProfile with
  | postBoot =>
    rw [resetFrom_of_postBoot hprofile]
    have hon : (0x91 : Byte).getLsbD 7 ≠ false := by decide
    exact ⟨Nat.zero_le 153, Nat.zero_lt_succ 455, fun _ => rfl, fun hoff => absurd hoff hon, .nil, nofun⟩
  | bootRom =>
    rw [resetFrom_of_bootRom hprofile]
    have hoff : (0x00 : Byte).getLsbD 7 ≠ true := by decide
    exact ⟨Nat.zero_le 153, Nat.zero_lt_succ 455, fun hon => absurd hon hoff, fun _ => ⟨rfl, rfl, rfl⟩, .nil, nofun⟩

/-- A running CPU with no halt-bug bit and no report, no transfer on the bus or the link. -/
theorem inv_reset {p : Params} (hboot : Memory.wf p.bootRom) : State.Inv (State.resetWith p) := by
  have hmem := memOk_reset p
  have hppu := ppuOk_reset p
  rw [inv_iff]
  unfold State.resetWith at hmem hppu ⊢
  cases hprofile : p.resetProfile with
  | postBoot =>
    rw [resetFrom_of_postBoot hprofile] at hmem hppu ⊢
    exact ⟨⟨hmem, hboot, hppu, nofun, nofun⟩, controlOk_of_unlocked rfl nofun rfl⟩
  | bootRom =>
    rw [resetFrom_of_bootRom hprofile] at hmem hppu ⊢
    exact ⟨⟨hmem, hboot, hppu, nofun, nofun⟩, controlOk_of_unlocked rfl nofun rfl⟩

/-- Settles O12: the default is one of the parameters, its boot ROM empty. -/
theorem resetMeetsInvariant : Obligations.ResetMeetsInvariant :=
  ⟨inv_reset (p := Params.default) (by decide), fun _ => inv_reset⟩

end Sys2Proof.Proofs
end
